-- ==== Sys2Proof/Word.lean ====
section
/-! DEFINITION. The words of the block and its data formats (00_scope R7 to R9, 10_state R30 to R32). -/

namespace Sys2Proof

/-- A wide register's value: `VLEN = 128` bits (00_scope R7). -/
abbrev Vec := BitVec 128

/-- An instruction word (30_encoding R85). -/
abbrev Word32 := BitVec 32

/-- A value on a scalar port, held in 64 bits whatever `GPRLEN` is (00_scope R10; log 8). -/
abbrev Scalar := BitVec 64

/-- A wide register id, `w0` to `w31` (00_scope R8). -/
abbrev Reg := Fin 32

/-- A general-purpose register id, `$0` to `$31`, of the file outside the block (30_encoding R98). -/
abbrev Gpr := Fin 32

/-- The data format: byte, half, word, doubleword (00_scope R9). -/
inductive Fmt | b | h | w | d
deriving DecidableEq, Repr

/-- `laneBits(df)`: the width of a lane (00_scope R9). -/
def laneBits : Fmt → Nat
  | .b => 8
  | .h => 16
  | .w => 32
  | .d => 64

/-- `laneCount(df) = VLEN / laneBits(df)` (00_scope R9). -/
def laneCount (df : Fmt) : Nat := 128 / laneBits df

/-- One lane of a register: an N-bit pattern with `N = laneBits(df)` (10_state R32). -/
abbrev Lane (df : Fmt) := BitVec (laneBits df)

end Sys2Proof
end

