-- ==== Sys2Proof/Syntax.lean ====
section
/-! DEFINITION. The instructions: one constructor of `Instr` for each row of `spec/opcode_table.json`
(30_encoding R99 to R105, R112), in the order of the spec's instruction files 40 to 47, and the
selectors that name an operation by its data format.

A value of `Instr` is the block's operation descriptor (30_encoding R80) without the scalar: the
constructor is the descriptor's `op` and `df`; `wd`, `ws`, `wt` are its register ids; `s5`, `u5`, `i8`,
`s10`, `m`, `n` are its `imm`. A lane index `n` may be any natural number and the other immediates any
integer (R83, R84): `WellFormed.lean` says which of them a descriptor may hold and which of them a word
can spell. `rs`, `rt`, `rd` name general-purpose registers outside the block (R98): their values come and
go on the scalar ports. -/

namespace Sys2Proof

/-- The decoded instruction: one constructor per row of the opcode table. -/
inductive Instr where
  -- copy_s (R146)
  | copySB (rd : Gpr) (ws : Reg) (n : Nat)
  | copySH (rd : Gpr) (ws : Reg) (n : Nat)
  | copySW (rd : Gpr) (ws : Reg) (n : Nat)
  | copySD (rd : Gpr) (ws : Reg) (n : Nat)
  -- copy_u (R147)
  | copyUB (rd : Gpr) (ws : Reg) (n : Nat)
  | copyUH (rd : Gpr) (ws : Reg) (n : Nat)
  | copyUW (rd : Gpr) (ws : Reg) (n : Nat)
  -- insert (R148)
  | insertB (wd : Reg) (rs : Gpr) (n : Nat)
  | insertH (wd : Reg) (rs : Gpr) (n : Nat)
  | insertW (wd : Reg) (rs : Gpr) (n : Nat)
  | insertD (wd : Reg) (rs : Gpr) (n : Nat)
  -- insve (R149)
  | insveB (wd ws : Reg) (n : Nat)
  | insveH (wd ws : Reg) (n : Nat)
  | insveW (wd ws : Reg) (n : Nat)
  | insveD (wd ws : Reg) (n : Nat)
  -- fill (R150)
  | fillB (wd : Reg) (rs : Gpr)
  | fillH (wd : Reg) (rs : Gpr)
  | fillW (wd : Reg) (rs : Gpr)
  | fillD (wd : Reg) (rs : Gpr)
  -- move (R151)
  | moveV (wd ws : Reg)
  -- addv (R171)
  | addvB (wd ws wt : Reg)
  | addvH (wd ws wt : Reg)
  | addvW (wd ws wt : Reg)
  | addvD (wd ws wt : Reg)
  -- addvi (R172)
  | addviB (wd ws : Reg) (u5 : Nat)
  | addviH (wd ws : Reg) (u5 : Nat)
  | addviW (wd ws : Reg) (u5 : Nat)
  | addviD (wd ws : Reg) (u5 : Nat)
  -- subv (R173)
  | subvB (wd ws wt : Reg)
  | subvH (wd ws wt : Reg)
  | subvW (wd ws wt : Reg)
  | subvD (wd ws wt : Reg)
  -- subvi (R174)
  | subviB (wd ws : Reg) (u5 : Nat)
  | subviH (wd ws : Reg) (u5 : Nat)
  | subviW (wd ws : Reg) (u5 : Nat)
  | subviD (wd ws : Reg) (u5 : Nat)
  -- adds_s (R175)
  | addsSB (wd ws wt : Reg)
  | addsSH (wd ws wt : Reg)
  | addsSW (wd ws wt : Reg)
  | addsSD (wd ws wt : Reg)
  -- adds_u (R176)
  | addsUB (wd ws wt : Reg)
  | addsUH (wd ws wt : Reg)
  | addsUW (wd ws wt : Reg)
  | addsUD (wd ws wt : Reg)
  -- subs_s (R177)
  | subsSB (wd ws wt : Reg)
  | subsSH (wd ws wt : Reg)
  | subsSW (wd ws wt : Reg)
  | subsSD (wd ws wt : Reg)
  -- subs_u (R178)
  | subsUB (wd ws wt : Reg)
  | subsUH (wd ws wt : Reg)
  | subsUW (wd ws wt : Reg)
  | subsUD (wd ws wt : Reg)
  -- subsus_u (R179)
  | subsusUB (wd ws wt : Reg)
  | subsusUH (wd ws wt : Reg)
  | subsusUW (wd ws wt : Reg)
  | subsusUD (wd ws wt : Reg)
  -- subsuu_s (R180)
  | subsuuSB (wd ws wt : Reg)
  | subsuuSH (wd ws wt : Reg)
  | subsuuSW (wd ws wt : Reg)
  | subsuuSD (wd ws wt : Reg)
  -- asub_s (R181)
  | asubSB (wd ws wt : Reg)
  | asubSH (wd ws wt : Reg)
  | asubSW (wd ws wt : Reg)
  | asubSD (wd ws wt : Reg)
  -- asub_u (R182)
  | asubUB (wd ws wt : Reg)
  | asubUH (wd ws wt : Reg)
  | asubUW (wd ws wt : Reg)
  | asubUD (wd ws wt : Reg)
  -- add_a (R183)
  | addAB (wd ws wt : Reg)
  | addAH (wd ws wt : Reg)
  | addAW (wd ws wt : Reg)
  | addAD (wd ws wt : Reg)
  -- adds_a (R184)
  | addsAB (wd ws wt : Reg)
  | addsAH (wd ws wt : Reg)
  | addsAW (wd ws wt : Reg)
  | addsAD (wd ws wt : Reg)
  -- ave_s (R185)
  | aveSB (wd ws wt : Reg)
  | aveSH (wd ws wt : Reg)
  | aveSW (wd ws wt : Reg)
  | aveSD (wd ws wt : Reg)
  -- ave_u (R186)
  | aveUB (wd ws wt : Reg)
  | aveUH (wd ws wt : Reg)
  | aveUW (wd ws wt : Reg)
  | aveUD (wd ws wt : Reg)
  -- aver_s (R187)
  | averSB (wd ws wt : Reg)
  | averSH (wd ws wt : Reg)
  | averSW (wd ws wt : Reg)
  | averSD (wd ws wt : Reg)
  -- aver_u (R188)
  | averUB (wd ws wt : Reg)
  | averUH (wd ws wt : Reg)
  | averUW (wd ws wt : Reg)
  | averUD (wd ws wt : Reg)
  -- max_a (R201)
  | maxAB (wd ws wt : Reg)
  | maxAH (wd ws wt : Reg)
  | maxAW (wd ws wt : Reg)
  | maxAD (wd ws wt : Reg)
  -- min_a (R202)
  | minAB (wd ws wt : Reg)
  | minAH (wd ws wt : Reg)
  | minAW (wd ws wt : Reg)
  | minAD (wd ws wt : Reg)
  -- max_s (R203)
  | maxSB (wd ws wt : Reg)
  | maxSH (wd ws wt : Reg)
  | maxSW (wd ws wt : Reg)
  | maxSD (wd ws wt : Reg)
  -- max_u (R204)
  | maxUB (wd ws wt : Reg)
  | maxUH (wd ws wt : Reg)
  | maxUW (wd ws wt : Reg)
  | maxUD (wd ws wt : Reg)
  -- min_s (R205)
  | minSB (wd ws wt : Reg)
  | minSH (wd ws wt : Reg)
  | minSW (wd ws wt : Reg)
  | minSD (wd ws wt : Reg)
  -- min_u (R206)
  | minUB (wd ws wt : Reg)
  | minUH (wd ws wt : Reg)
  | minUW (wd ws wt : Reg)
  | minUD (wd ws wt : Reg)
  -- maxi_s (R207)
  | maxiSB (wd ws : Reg) (s5 : Int)
  | maxiSH (wd ws : Reg) (s5 : Int)
  | maxiSW (wd ws : Reg) (s5 : Int)
  | maxiSD (wd ws : Reg) (s5 : Int)
  -- maxi_u (R208)
  | maxiUB (wd ws : Reg) (u5 : Nat)
  | maxiUH (wd ws : Reg) (u5 : Nat)
  | maxiUW (wd ws : Reg) (u5 : Nat)
  | maxiUD (wd ws : Reg) (u5 : Nat)
  -- mini_s (R209)
  | miniSB (wd ws : Reg) (s5 : Int)
  | miniSH (wd ws : Reg) (s5 : Int)
  | miniSW (wd ws : Reg) (s5 : Int)
  | miniSD (wd ws : Reg) (s5 : Int)
  -- mini_u (R210)
  | miniUB (wd ws : Reg) (u5 : Nat)
  | miniUH (wd ws : Reg) (u5 : Nat)
  | miniUW (wd ws : Reg) (u5 : Nat)
  | miniUD (wd ws : Reg) (u5 : Nat)
  -- ceq (R212)
  | ceqB (wd ws wt : Reg)
  | ceqH (wd ws wt : Reg)
  | ceqW (wd ws wt : Reg)
  | ceqD (wd ws wt : Reg)
  -- ceqi (R213)
  | ceqiB (wd ws : Reg) (s5 : Int)
  | ceqiH (wd ws : Reg) (s5 : Int)
  | ceqiW (wd ws : Reg) (s5 : Int)
  | ceqiD (wd ws : Reg) (s5 : Int)
  -- clt_s (R214)
  | cltSB (wd ws wt : Reg)
  | cltSH (wd ws wt : Reg)
  | cltSW (wd ws wt : Reg)
  | cltSD (wd ws wt : Reg)
  -- clt_u (R215)
  | cltUB (wd ws wt : Reg)
  | cltUH (wd ws wt : Reg)
  | cltUW (wd ws wt : Reg)
  | cltUD (wd ws wt : Reg)
  -- clti_s (R216)
  | cltiSB (wd ws : Reg) (s5 : Int)
  | cltiSH (wd ws : Reg) (s5 : Int)
  | cltiSW (wd ws : Reg) (s5 : Int)
  | cltiSD (wd ws : Reg) (s5 : Int)
  -- clti_u (R217)
  | cltiUB (wd ws : Reg) (u5 : Nat)
  | cltiUH (wd ws : Reg) (u5 : Nat)
  | cltiUW (wd ws : Reg) (u5 : Nat)
  | cltiUD (wd ws : Reg) (u5 : Nat)
  -- cle_s (R218)
  | cleSB (wd ws wt : Reg)
  | cleSH (wd ws wt : Reg)
  | cleSW (wd ws wt : Reg)
  | cleSD (wd ws wt : Reg)
  -- cle_u (R219)
  | cleUB (wd ws wt : Reg)
  | cleUH (wd ws wt : Reg)
  | cleUW (wd ws wt : Reg)
  | cleUD (wd ws wt : Reg)
  -- clei_s (R220)
  | cleiSB (wd ws : Reg) (s5 : Int)
  | cleiSH (wd ws : Reg) (s5 : Int)
  | cleiSW (wd ws : Reg) (s5 : Int)
  | cleiSD (wd ws : Reg) (s5 : Int)
  -- clei_u (R221)
  | cleiUB (wd ws : Reg) (u5 : Nat)
  | cleiUH (wd ws : Reg) (u5 : Nat)
  | cleiUW (wd ws : Reg) (u5 : Nat)
  | cleiUD (wd ws : Reg) (u5 : Nat)
  -- hadd_s (R233)
  | haddSH (wd ws wt : Reg)
  | haddSW (wd ws wt : Reg)
  | haddSD (wd ws wt : Reg)
  -- hadd_u (R234)
  | haddUH (wd ws wt : Reg)
  | haddUW (wd ws wt : Reg)
  | haddUD (wd ws wt : Reg)
  -- hsub_s (R235)
  | hsubSH (wd ws wt : Reg)
  | hsubSW (wd ws wt : Reg)
  | hsubSD (wd ws wt : Reg)
  -- hsub_u (R236)
  | hsubUH (wd ws wt : Reg)
  | hsubUW (wd ws wt : Reg)
  | hsubUD (wd ws wt : Reg)
  -- dotp_s (R237)
  | dotpSH (wd ws wt : Reg)
  | dotpSW (wd ws wt : Reg)
  | dotpSD (wd ws wt : Reg)
  -- dotp_u (R238)
  | dotpUH (wd ws wt : Reg)
  | dotpUW (wd ws wt : Reg)
  | dotpUD (wd ws wt : Reg)
  -- dpadd_s (R239)
  | dpaddSH (wd ws wt : Reg)
  | dpaddSW (wd ws wt : Reg)
  | dpaddSD (wd ws wt : Reg)
  -- dpadd_u (R240)
  | dpaddUH (wd ws wt : Reg)
  | dpaddUW (wd ws wt : Reg)
  | dpaddUD (wd ws wt : Reg)
  -- dpsub_s (R241)
  | dpsubSH (wd ws wt : Reg)
  | dpsubSW (wd ws wt : Reg)
  | dpsubSD (wd ws wt : Reg)
  -- dpsub_u (R242)
  | dpsubUH (wd ws wt : Reg)
  | dpsubUW (wd ws wt : Reg)
  | dpsubUD (wd ws wt : Reg)
  -- mulv (R243)
  | mulvB (wd ws wt : Reg)
  | mulvH (wd ws wt : Reg)
  | mulvW (wd ws wt : Reg)
  | mulvD (wd ws wt : Reg)
  -- maddv (R244)
  | maddvB (wd ws wt : Reg)
  | maddvH (wd ws wt : Reg)
  | maddvW (wd ws wt : Reg)
  | maddvD (wd ws wt : Reg)
  -- msubv (R245)
  | msubvB (wd ws wt : Reg)
  | msubvH (wd ws wt : Reg)
  | msubvW (wd ws wt : Reg)
  | msubvD (wd ws wt : Reg)
  -- div_s (R246)
  | divSB (wd ws wt : Reg)
  | divSH (wd ws wt : Reg)
  | divSW (wd ws wt : Reg)
  | divSD (wd ws wt : Reg)
  -- div_u (R247)
  | divUB (wd ws wt : Reg)
  | divUH (wd ws wt : Reg)
  | divUW (wd ws wt : Reg)
  | divUD (wd ws wt : Reg)
  -- mod_s (R248)
  | modSB (wd ws wt : Reg)
  | modSH (wd ws wt : Reg)
  | modSW (wd ws wt : Reg)
  | modSD (wd ws wt : Reg)
  -- mod_u (R249)
  | modUB (wd ws wt : Reg)
  | modUH (wd ws wt : Reg)
  | modUW (wd ws wt : Reg)
  | modUD (wd ws wt : Reg)
  -- mul_q (R261)
  | mulQH (wd ws wt : Reg)
  | mulQW (wd ws wt : Reg)
  -- mulr_q (R262)
  | mulrQH (wd ws wt : Reg)
  | mulrQW (wd ws wt : Reg)
  -- madd_q (R263)
  | maddQH (wd ws wt : Reg)
  | maddQW (wd ws wt : Reg)
  -- maddr_q (R264)
  | maddrQH (wd ws wt : Reg)
  | maddrQW (wd ws wt : Reg)
  -- msub_q (R265)
  | msubQH (wd ws wt : Reg)
  | msubQW (wd ws wt : Reg)
  -- msubr_q (R266)
  | msubrQH (wd ws wt : Reg)
  | msubrQW (wd ws wt : Reg)
  -- bclr (R282)
  | bclrB (wd ws wt : Reg)
  | bclrH (wd ws wt : Reg)
  | bclrW (wd ws wt : Reg)
  | bclrD (wd ws wt : Reg)
  -- bclri (R283)
  | bclriB (wd ws : Reg) (m : Nat)
  | bclriH (wd ws : Reg) (m : Nat)
  | bclriW (wd ws : Reg) (m : Nat)
  | bclriD (wd ws : Reg) (m : Nat)
  -- bset (R284)
  | bsetB (wd ws wt : Reg)
  | bsetH (wd ws wt : Reg)
  | bsetW (wd ws wt : Reg)
  | bsetD (wd ws wt : Reg)
  -- bseti (R285)
  | bsetiB (wd ws : Reg) (m : Nat)
  | bsetiH (wd ws : Reg) (m : Nat)
  | bsetiW (wd ws : Reg) (m : Nat)
  | bsetiD (wd ws : Reg) (m : Nat)
  -- bneg (R286)
  | bnegB (wd ws wt : Reg)
  | bnegH (wd ws wt : Reg)
  | bnegW (wd ws wt : Reg)
  | bnegD (wd ws wt : Reg)
  -- bnegi (R287)
  | bnegiB (wd ws : Reg) (m : Nat)
  | bnegiH (wd ws : Reg) (m : Nat)
  | bnegiW (wd ws : Reg) (m : Nat)
  | bnegiD (wd ws : Reg) (m : Nat)
  -- binsl (R289)
  | binslB (wd ws wt : Reg)
  | binslH (wd ws wt : Reg)
  | binslW (wd ws wt : Reg)
  | binslD (wd ws wt : Reg)
  -- binsli (R290)
  | binsliB (wd ws : Reg) (m : Nat)
  | binsliH (wd ws : Reg) (m : Nat)
  | binsliW (wd ws : Reg) (m : Nat)
  | binsliD (wd ws : Reg) (m : Nat)
  -- binsr (R291)
  | binsrB (wd ws wt : Reg)
  | binsrH (wd ws wt : Reg)
  | binsrW (wd ws wt : Reg)
  | binsrD (wd ws wt : Reg)
  -- binsri (R292)
  | binsriB (wd ws : Reg) (m : Nat)
  | binsriH (wd ws : Reg) (m : Nat)
  | binsriW (wd ws : Reg) (m : Nat)
  | binsriD (wd ws : Reg) (m : Nat)
  -- sat_s (R293)
  | satSB (wd ws : Reg) (m : Nat)
  | satSH (wd ws : Reg) (m : Nat)
  | satSW (wd ws : Reg) (m : Nat)
  | satSD (wd ws : Reg) (m : Nat)
  -- sat_u (R294)
  | satUB (wd ws : Reg) (m : Nat)
  | satUH (wd ws : Reg) (m : Nat)
  | satUW (wd ws : Reg) (m : Nat)
  | satUD (wd ws : Reg) (m : Nat)
  -- pcnt (R295)
  | pcntB (wd ws : Reg)
  | pcntH (wd ws : Reg)
  | pcntW (wd ws : Reg)
  | pcntD (wd ws : Reg)
  -- nloc (R296)
  | nlocB (wd ws : Reg)
  | nlocH (wd ws : Reg)
  | nlocW (wd ws : Reg)
  | nlocD (wd ws : Reg)
  -- nlzc (R297)
  | nlzcB (wd ws : Reg)
  | nlzcH (wd ws : Reg)
  | nlzcW (wd ws : Reg)
  | nlzcD (wd ws : Reg)
  -- and (R299)
  | andV (wd ws wt : Reg)
  -- or (R300)
  | orV (wd ws wt : Reg)
  -- nor (R301)
  | norV (wd ws wt : Reg)
  -- xor (R302)
  | xorV (wd ws wt : Reg)
  -- andi (R303)
  | andiB (wd ws : Reg) (i8 : Nat)
  -- ori (R304)
  | oriB (wd ws : Reg) (i8 : Nat)
  -- nori (R305)
  | noriB (wd ws : Reg) (i8 : Nat)
  -- xori (R306)
  | xoriB (wd ws : Reg) (i8 : Nat)
  -- bmnz (R307)
  | bmnzV (wd ws wt : Reg)
  -- bmz (R308)
  | bmzV (wd ws wt : Reg)
  -- bsel (R309)
  | bselV (wd ws wt : Reg)
  -- bmnzi (R310)
  | bmnziB (wd ws : Reg) (i8 : Nat)
  -- bmzi (R311)
  | bmziB (wd ws : Reg) (i8 : Nat)
  -- bseli (R312)
  | bseliB (wd ws : Reg) (i8 : Nat)
  -- sll (R322)
  | sllB (wd ws wt : Reg)
  | sllH (wd ws wt : Reg)
  | sllW (wd ws wt : Reg)
  | sllD (wd ws wt : Reg)
  -- slli (R323)
  | slliB (wd ws : Reg) (m : Nat)
  | slliH (wd ws : Reg) (m : Nat)
  | slliW (wd ws : Reg) (m : Nat)
  | slliD (wd ws : Reg) (m : Nat)
  -- sra (R324)
  | sraB (wd ws wt : Reg)
  | sraH (wd ws wt : Reg)
  | sraW (wd ws wt : Reg)
  | sraD (wd ws wt : Reg)
  -- srai (R325)
  | sraiB (wd ws : Reg) (m : Nat)
  | sraiH (wd ws : Reg) (m : Nat)
  | sraiW (wd ws : Reg) (m : Nat)
  | sraiD (wd ws : Reg) (m : Nat)
  -- srl (R326)
  | srlB (wd ws wt : Reg)
  | srlH (wd ws wt : Reg)
  | srlW (wd ws wt : Reg)
  | srlD (wd ws wt : Reg)
  -- srli (R327)
  | srliB (wd ws : Reg) (m : Nat)
  | srliH (wd ws : Reg) (m : Nat)
  | srliW (wd ws : Reg) (m : Nat)
  | srliD (wd ws : Reg) (m : Nat)
  -- srar (R328)
  | srarB (wd ws wt : Reg)
  | srarH (wd ws wt : Reg)
  | srarW (wd ws wt : Reg)
  | srarD (wd ws wt : Reg)
  -- srari (R329)
  | srariB (wd ws : Reg) (m : Nat)
  | srariH (wd ws : Reg) (m : Nat)
  | srariW (wd ws : Reg) (m : Nat)
  | srariD (wd ws : Reg) (m : Nat)
  -- srlr (R330)
  | srlrB (wd ws wt : Reg)
  | srlrH (wd ws wt : Reg)
  | srlrW (wd ws wt : Reg)
  | srlrD (wd ws wt : Reg)
  -- srlri (R331)
  | srlriB (wd ws : Reg) (m : Nat)
  | srlriH (wd ws : Reg) (m : Nat)
  | srlriW (wd ws : Reg) (m : Nat)
  | srlriD (wd ws : Reg) (m : Nat)
  -- ilvev (R341)
  | ilvevB (wd ws wt : Reg)
  | ilvevH (wd ws wt : Reg)
  | ilvevW (wd ws wt : Reg)
  | ilvevD (wd ws wt : Reg)
  -- ilvod (R342)
  | ilvodB (wd ws wt : Reg)
  | ilvodH (wd ws wt : Reg)
  | ilvodW (wd ws wt : Reg)
  | ilvodD (wd ws wt : Reg)
  -- ilvl (R343)
  | ilvlB (wd ws wt : Reg)
  | ilvlH (wd ws wt : Reg)
  | ilvlW (wd ws wt : Reg)
  | ilvlD (wd ws wt : Reg)
  -- ilvr (R344)
  | ilvrB (wd ws wt : Reg)
  | ilvrH (wd ws wt : Reg)
  | ilvrW (wd ws wt : Reg)
  | ilvrD (wd ws wt : Reg)
  -- pckev (R345)
  | pckevB (wd ws wt : Reg)
  | pckevH (wd ws wt : Reg)
  | pckevW (wd ws wt : Reg)
  | pckevD (wd ws wt : Reg)
  -- pckod (R346)
  | pckodB (wd ws wt : Reg)
  | pckodH (wd ws wt : Reg)
  | pckodW (wd ws wt : Reg)
  | pckodD (wd ws wt : Reg)
  -- vshf (R347)
  | vshfB (wd ws wt : Reg)
  | vshfH (wd ws wt : Reg)
  | vshfW (wd ws wt : Reg)
  | vshfD (wd ws wt : Reg)
  -- shf (R348)
  | shfB (wd ws : Reg) (i8 : Nat)
  | shfH (wd ws : Reg) (i8 : Nat)
  | shfW (wd ws : Reg) (i8 : Nat)
  -- sld (R349)
  | sldB (wd ws : Reg) (rt : Gpr)
  | sldH (wd ws : Reg) (rt : Gpr)
  | sldW (wd ws : Reg) (rt : Gpr)
  | sldD (wd ws : Reg) (rt : Gpr)
  -- sldi (R350)
  | sldiB (wd ws : Reg) (n : Nat)
  | sldiH (wd ws : Reg) (n : Nat)
  | sldiW (wd ws : Reg) (n : Nat)
  | sldiD (wd ws : Reg) (n : Nat)
  -- splat (R351)
  | splatB (wd ws : Reg) (rt : Gpr)
  | splatH (wd ws : Reg) (rt : Gpr)
  | splatW (wd ws : Reg) (rt : Gpr)
  | splatD (wd ws : Reg) (rt : Gpr)
  -- splati (R352)
  | splatiB (wd ws : Reg) (n : Nat)
  | splatiH (wd ws : Reg) (n : Nat)
  | splatiW (wd ws : Reg) (n : Nat)
  | splatiD (wd ws : Reg) (n : Nat)
  -- ldi (R353)
  | ldiB (wd : Reg) (s10 : Int)
  | ldiH (wd : Reg) (s10 : Int)
  | ldiW (wd : Reg) (s10 : Int)
  | ldiD (wd : Reg) (s10 : Int)
deriving DecidableEq, Repr

/-! ## Formats an operation does not have

`hadd`, `hsub`, `dotp`, `dpadd`, `dpsub` have no byte form (R107), the Q-format operations have only
`h` and `w` (R95), `shf` has no doubleword form (R102) and `copy_u` none either (R107). -/

/-- Half, word and doubleword. -/
inductive FmtHwd | h | w | d
deriving DecidableEq, Repr

/-- Half and word. -/
inductive FmtHw | h | w
deriving DecidableEq, Repr

/-- Byte, half and word. -/
inductive FmtBhw | b | h | w
deriving DecidableEq, Repr

/-- The data format a restricted format stands for. -/
@[simp] def FmtHwd.fmt : FmtHwd → Fmt
  | .h => .h
  | .w => .w
  | .d => .d

/-- The data format a restricted format stands for. -/
@[simp] def FmtHw.fmt : FmtHw → Fmt
  | .h => .h
  | .w => .w

/-- The data format a restricted format stands for. -/
@[simp] def FmtBhw.fmt : FmtBhw → Fmt
  | .b => .b
  | .h => .h
  | .w => .w

namespace Instr

/-! ## Selectors: the instruction of an operation at a data format

Lean's compiler holds at most 244 constructors with operands in one type, so a function that builds an
`Instr` is not compiled here: it is evaluated by the kernel, which every check of this package uses. -/

noncomputable section

/-- `copy_s.df` (R146). -/
@[simp] def copyS : Fmt → Gpr → Reg → Nat → Instr
  | .b => .copySB
  | .h => .copySH
  | .w => .copySW
  | .d => .copySD

/-- `copy_u.df` (R147). -/
@[simp] def copyU : FmtBhw → Gpr → Reg → Nat → Instr
  | .b => .copyUB
  | .h => .copyUH
  | .w => .copyUW

/-- `insert.df` (R148). -/
@[simp] def insert : Fmt → Reg → Gpr → Nat → Instr
  | .b => .insertB
  | .h => .insertH
  | .w => .insertW
  | .d => .insertD

/-- `insve.df` (R149). -/
@[simp] def insve : Fmt → Reg → Reg → Nat → Instr
  | .b => .insveB
  | .h => .insveH
  | .w => .insveW
  | .d => .insveD

/-- `fill.df` (R150). -/
@[simp] def fill : Fmt → Reg → Gpr → Instr
  | .b => .fillB
  | .h => .fillH
  | .w => .fillW
  | .d => .fillD

/-- `addv.df` (R171). -/
@[simp] def addv : Fmt → Reg → Reg → Reg → Instr
  | .b => .addvB
  | .h => .addvH
  | .w => .addvW
  | .d => .addvD

/-- `addvi.df` (R172). -/
@[simp] def addvi : Fmt → Reg → Reg → Nat → Instr
  | .b => .addviB
  | .h => .addviH
  | .w => .addviW
  | .d => .addviD

/-- `subv.df` (R173). -/
@[simp] def subv : Fmt → Reg → Reg → Reg → Instr
  | .b => .subvB
  | .h => .subvH
  | .w => .subvW
  | .d => .subvD

/-- `subvi.df` (R174). -/
@[simp] def subvi : Fmt → Reg → Reg → Nat → Instr
  | .b => .subviB
  | .h => .subviH
  | .w => .subviW
  | .d => .subviD

/-- `adds_s.df` (R175). -/
@[simp] def addsS : Fmt → Reg → Reg → Reg → Instr
  | .b => .addsSB
  | .h => .addsSH
  | .w => .addsSW
  | .d => .addsSD

/-- `adds_u.df` (R176). -/
@[simp] def addsU : Fmt → Reg → Reg → Reg → Instr
  | .b => .addsUB
  | .h => .addsUH
  | .w => .addsUW
  | .d => .addsUD

/-- `subs_s.df` (R177). -/
@[simp] def subsS : Fmt → Reg → Reg → Reg → Instr
  | .b => .subsSB
  | .h => .subsSH
  | .w => .subsSW
  | .d => .subsSD

/-- `subs_u.df` (R178). -/
@[simp] def subsU : Fmt → Reg → Reg → Reg → Instr
  | .b => .subsUB
  | .h => .subsUH
  | .w => .subsUW
  | .d => .subsUD

/-- `subsus_u.df` (R179). -/
@[simp] def subsusU : Fmt → Reg → Reg → Reg → Instr
  | .b => .subsusUB
  | .h => .subsusUH
  | .w => .subsusUW
  | .d => .subsusUD

/-- `subsuu_s.df` (R180). -/
@[simp] def subsuuS : Fmt → Reg → Reg → Reg → Instr
  | .b => .subsuuSB
  | .h => .subsuuSH
  | .w => .subsuuSW
  | .d => .subsuuSD

/-- `asub_s.df` (R181). -/
@[simp] def asubS : Fmt → Reg → Reg → Reg → Instr
  | .b => .asubSB
  | .h => .asubSH
  | .w => .asubSW
  | .d => .asubSD

/-- `asub_u.df` (R182). -/
@[simp] def asubU : Fmt → Reg → Reg → Reg → Instr
  | .b => .asubUB
  | .h => .asubUH
  | .w => .asubUW
  | .d => .asubUD

/-- `add_a.df` (R183). -/
@[simp] def addA : Fmt → Reg → Reg → Reg → Instr
  | .b => .addAB
  | .h => .addAH
  | .w => .addAW
  | .d => .addAD

/-- `adds_a.df` (R184). -/
@[simp] def addsA : Fmt → Reg → Reg → Reg → Instr
  | .b => .addsAB
  | .h => .addsAH
  | .w => .addsAW
  | .d => .addsAD

/-- `ave_s.df` (R185). -/
@[simp] def aveS : Fmt → Reg → Reg → Reg → Instr
  | .b => .aveSB
  | .h => .aveSH
  | .w => .aveSW
  | .d => .aveSD

/-- `ave_u.df` (R186). -/
@[simp] def aveU : Fmt → Reg → Reg → Reg → Instr
  | .b => .aveUB
  | .h => .aveUH
  | .w => .aveUW
  | .d => .aveUD

/-- `aver_s.df` (R187). -/
@[simp] def averS : Fmt → Reg → Reg → Reg → Instr
  | .b => .averSB
  | .h => .averSH
  | .w => .averSW
  | .d => .averSD

/-- `aver_u.df` (R188). -/
@[simp] def averU : Fmt → Reg → Reg → Reg → Instr
  | .b => .averUB
  | .h => .averUH
  | .w => .averUW
  | .d => .averUD

/-- `max_a.df` (R201). -/
@[simp] def maxA : Fmt → Reg → Reg → Reg → Instr
  | .b => .maxAB
  | .h => .maxAH
  | .w => .maxAW
  | .d => .maxAD

/-- `min_a.df` (R202). -/
@[simp] def minA : Fmt → Reg → Reg → Reg → Instr
  | .b => .minAB
  | .h => .minAH
  | .w => .minAW
  | .d => .minAD

/-- `max_s.df` (R203). -/
@[simp] def maxS : Fmt → Reg → Reg → Reg → Instr
  | .b => .maxSB
  | .h => .maxSH
  | .w => .maxSW
  | .d => .maxSD

/-- `max_u.df` (R204). -/
@[simp] def maxU : Fmt → Reg → Reg → Reg → Instr
  | .b => .maxUB
  | .h => .maxUH
  | .w => .maxUW
  | .d => .maxUD

/-- `min_s.df` (R205). -/
@[simp] def minS : Fmt → Reg → Reg → Reg → Instr
  | .b => .minSB
  | .h => .minSH
  | .w => .minSW
  | .d => .minSD

/-- `min_u.df` (R206). -/
@[simp] def minU : Fmt → Reg → Reg → Reg → Instr
  | .b => .minUB
  | .h => .minUH
  | .w => .minUW
  | .d => .minUD

/-- `maxi_s.df` (R207). -/
@[simp] def maxiS : Fmt → Reg → Reg → Int → Instr
  | .b => .maxiSB
  | .h => .maxiSH
  | .w => .maxiSW
  | .d => .maxiSD

/-- `maxi_u.df` (R208). -/
@[simp] def maxiU : Fmt → Reg → Reg → Nat → Instr
  | .b => .maxiUB
  | .h => .maxiUH
  | .w => .maxiUW
  | .d => .maxiUD

/-- `mini_s.df` (R209). -/
@[simp] def miniS : Fmt → Reg → Reg → Int → Instr
  | .b => .miniSB
  | .h => .miniSH
  | .w => .miniSW
  | .d => .miniSD

/-- `mini_u.df` (R210). -/
@[simp] def miniU : Fmt → Reg → Reg → Nat → Instr
  | .b => .miniUB
  | .h => .miniUH
  | .w => .miniUW
  | .d => .miniUD

/-- `ceq.df` (R212). -/
@[simp] def ceq : Fmt → Reg → Reg → Reg → Instr
  | .b => .ceqB
  | .h => .ceqH
  | .w => .ceqW
  | .d => .ceqD

/-- `ceqi.df` (R213). -/
@[simp] def ceqi : Fmt → Reg → Reg → Int → Instr
  | .b => .ceqiB
  | .h => .ceqiH
  | .w => .ceqiW
  | .d => .ceqiD

/-- `clt_s.df` (R214). -/
@[simp] def cltS : Fmt → Reg → Reg → Reg → Instr
  | .b => .cltSB
  | .h => .cltSH
  | .w => .cltSW
  | .d => .cltSD

/-- `clt_u.df` (R215). -/
@[simp] def cltU : Fmt → Reg → Reg → Reg → Instr
  | .b => .cltUB
  | .h => .cltUH
  | .w => .cltUW
  | .d => .cltUD

/-- `clti_s.df` (R216). -/
@[simp] def cltiS : Fmt → Reg → Reg → Int → Instr
  | .b => .cltiSB
  | .h => .cltiSH
  | .w => .cltiSW
  | .d => .cltiSD

/-- `clti_u.df` (R217). -/
@[simp] def cltiU : Fmt → Reg → Reg → Nat → Instr
  | .b => .cltiUB
  | .h => .cltiUH
  | .w => .cltiUW
  | .d => .cltiUD

/-- `cle_s.df` (R218). -/
@[simp] def cleS : Fmt → Reg → Reg → Reg → Instr
  | .b => .cleSB
  | .h => .cleSH
  | .w => .cleSW
  | .d => .cleSD

/-- `cle_u.df` (R219). -/
@[simp] def cleU : Fmt → Reg → Reg → Reg → Instr
  | .b => .cleUB
  | .h => .cleUH
  | .w => .cleUW
  | .d => .cleUD

/-- `clei_s.df` (R220). -/
@[simp] def cleiS : Fmt → Reg → Reg → Int → Instr
  | .b => .cleiSB
  | .h => .cleiSH
  | .w => .cleiSW
  | .d => .cleiSD

/-- `clei_u.df` (R221). -/
@[simp] def cleiU : Fmt → Reg → Reg → Nat → Instr
  | .b => .cleiUB
  | .h => .cleiUH
  | .w => .cleiUW
  | .d => .cleiUD

/-- `hadd_s.df` (R233). -/
@[simp] def haddS : FmtHwd → Reg → Reg → Reg → Instr
  | .h => .haddSH
  | .w => .haddSW
  | .d => .haddSD

/-- `hadd_u.df` (R234). -/
@[simp] def haddU : FmtHwd → Reg → Reg → Reg → Instr
  | .h => .haddUH
  | .w => .haddUW
  | .d => .haddUD

/-- `hsub_s.df` (R235). -/
@[simp] def hsubS : FmtHwd → Reg → Reg → Reg → Instr
  | .h => .hsubSH
  | .w => .hsubSW
  | .d => .hsubSD

/-- `hsub_u.df` (R236). -/
@[simp] def hsubU : FmtHwd → Reg → Reg → Reg → Instr
  | .h => .hsubUH
  | .w => .hsubUW
  | .d => .hsubUD

/-- `dotp_s.df` (R237). -/
@[simp] def dotpS : FmtHwd → Reg → Reg → Reg → Instr
  | .h => .dotpSH
  | .w => .dotpSW
  | .d => .dotpSD

/-- `dotp_u.df` (R238). -/
@[simp] def dotpU : FmtHwd → Reg → Reg → Reg → Instr
  | .h => .dotpUH
  | .w => .dotpUW
  | .d => .dotpUD

/-- `dpadd_s.df` (R239). -/
@[simp] def dpaddS : FmtHwd → Reg → Reg → Reg → Instr
  | .h => .dpaddSH
  | .w => .dpaddSW
  | .d => .dpaddSD

/-- `dpadd_u.df` (R240). -/
@[simp] def dpaddU : FmtHwd → Reg → Reg → Reg → Instr
  | .h => .dpaddUH
  | .w => .dpaddUW
  | .d => .dpaddUD

/-- `dpsub_s.df` (R241). -/
@[simp] def dpsubS : FmtHwd → Reg → Reg → Reg → Instr
  | .h => .dpsubSH
  | .w => .dpsubSW
  | .d => .dpsubSD

/-- `dpsub_u.df` (R242). -/
@[simp] def dpsubU : FmtHwd → Reg → Reg → Reg → Instr
  | .h => .dpsubUH
  | .w => .dpsubUW
  | .d => .dpsubUD

/-- `mulv.df` (R243). -/
@[simp] def mulv : Fmt → Reg → Reg → Reg → Instr
  | .b => .mulvB
  | .h => .mulvH
  | .w => .mulvW
  | .d => .mulvD

/-- `maddv.df` (R244). -/
@[simp] def maddv : Fmt → Reg → Reg → Reg → Instr
  | .b => .maddvB
  | .h => .maddvH
  | .w => .maddvW
  | .d => .maddvD

/-- `msubv.df` (R245). -/
@[simp] def msubv : Fmt → Reg → Reg → Reg → Instr
  | .b => .msubvB
  | .h => .msubvH
  | .w => .msubvW
  | .d => .msubvD

/-- `div_s.df` (R246). -/
@[simp] def divS : Fmt → Reg → Reg → Reg → Instr
  | .b => .divSB
  | .h => .divSH
  | .w => .divSW
  | .d => .divSD

/-- `div_u.df` (R247). -/
@[simp] def divU : Fmt → Reg → Reg → Reg → Instr
  | .b => .divUB
  | .h => .divUH
  | .w => .divUW
  | .d => .divUD

/-- `mod_s.df` (R248). -/
@[simp] def modS : Fmt → Reg → Reg → Reg → Instr
  | .b => .modSB
  | .h => .modSH
  | .w => .modSW
  | .d => .modSD

/-- `mod_u.df` (R249). -/
@[simp] def modU : Fmt → Reg → Reg → Reg → Instr
  | .b => .modUB
  | .h => .modUH
  | .w => .modUW
  | .d => .modUD

/-- `mul_q.df` (R261). -/
@[simp] def mulQ : FmtHw → Reg → Reg → Reg → Instr
  | .h => .mulQH
  | .w => .mulQW

/-- `mulr_q.df` (R262). -/
@[simp] def mulrQ : FmtHw → Reg → Reg → Reg → Instr
  | .h => .mulrQH
  | .w => .mulrQW

/-- `madd_q.df` (R263). -/
@[simp] def maddQ : FmtHw → Reg → Reg → Reg → Instr
  | .h => .maddQH
  | .w => .maddQW

/-- `maddr_q.df` (R264). -/
@[simp] def maddrQ : FmtHw → Reg → Reg → Reg → Instr
  | .h => .maddrQH
  | .w => .maddrQW

/-- `msub_q.df` (R265). -/
@[simp] def msubQ : FmtHw → Reg → Reg → Reg → Instr
  | .h => .msubQH
  | .w => .msubQW

/-- `msubr_q.df` (R266). -/
@[simp] def msubrQ : FmtHw → Reg → Reg → Reg → Instr
  | .h => .msubrQH
  | .w => .msubrQW

/-- `bclr.df` (R282). -/
@[simp] def bclr : Fmt → Reg → Reg → Reg → Instr
  | .b => .bclrB
  | .h => .bclrH
  | .w => .bclrW
  | .d => .bclrD

/-- `bclri.df` (R283). -/
@[simp] def bclri : Fmt → Reg → Reg → Nat → Instr
  | .b => .bclriB
  | .h => .bclriH
  | .w => .bclriW
  | .d => .bclriD

/-- `bset.df` (R284). -/
@[simp] def bset : Fmt → Reg → Reg → Reg → Instr
  | .b => .bsetB
  | .h => .bsetH
  | .w => .bsetW
  | .d => .bsetD

/-- `bseti.df` (R285). -/
@[simp] def bseti : Fmt → Reg → Reg → Nat → Instr
  | .b => .bsetiB
  | .h => .bsetiH
  | .w => .bsetiW
  | .d => .bsetiD

/-- `bneg.df` (R286). -/
@[simp] def bneg : Fmt → Reg → Reg → Reg → Instr
  | .b => .bnegB
  | .h => .bnegH
  | .w => .bnegW
  | .d => .bnegD

/-- `bnegi.df` (R287). -/
@[simp] def bnegi : Fmt → Reg → Reg → Nat → Instr
  | .b => .bnegiB
  | .h => .bnegiH
  | .w => .bnegiW
  | .d => .bnegiD

/-- `binsl.df` (R289). -/
@[simp] def binsl : Fmt → Reg → Reg → Reg → Instr
  | .b => .binslB
  | .h => .binslH
  | .w => .binslW
  | .d => .binslD

/-- `binsli.df` (R290). -/
@[simp] def binsli : Fmt → Reg → Reg → Nat → Instr
  | .b => .binsliB
  | .h => .binsliH
  | .w => .binsliW
  | .d => .binsliD

/-- `binsr.df` (R291). -/
@[simp] def binsr : Fmt → Reg → Reg → Reg → Instr
  | .b => .binsrB
  | .h => .binsrH
  | .w => .binsrW
  | .d => .binsrD

/-- `binsri.df` (R292). -/
@[simp] def binsri : Fmt → Reg → Reg → Nat → Instr
  | .b => .binsriB
  | .h => .binsriH
  | .w => .binsriW
  | .d => .binsriD

/-- `sat_s.df` (R293). -/
@[simp] def satS : Fmt → Reg → Reg → Nat → Instr
  | .b => .satSB
  | .h => .satSH
  | .w => .satSW
  | .d => .satSD

/-- `sat_u.df` (R294). -/
@[simp] def satU : Fmt → Reg → Reg → Nat → Instr
  | .b => .satUB
  | .h => .satUH
  | .w => .satUW
  | .d => .satUD

/-- `pcnt.df` (R295). -/
@[simp] def pcnt : Fmt → Reg → Reg → Instr
  | .b => .pcntB
  | .h => .pcntH
  | .w => .pcntW
  | .d => .pcntD

/-- `nloc.df` (R296). -/
@[simp] def nloc : Fmt → Reg → Reg → Instr
  | .b => .nlocB
  | .h => .nlocH
  | .w => .nlocW
  | .d => .nlocD

/-- `nlzc.df` (R297). -/
@[simp] def nlzc : Fmt → Reg → Reg → Instr
  | .b => .nlzcB
  | .h => .nlzcH
  | .w => .nlzcW
  | .d => .nlzcD

/-- `sll.df` (R322). -/
@[simp] def sll : Fmt → Reg → Reg → Reg → Instr
  | .b => .sllB
  | .h => .sllH
  | .w => .sllW
  | .d => .sllD

/-- `slli.df` (R323). -/
@[simp] def slli : Fmt → Reg → Reg → Nat → Instr
  | .b => .slliB
  | .h => .slliH
  | .w => .slliW
  | .d => .slliD

/-- `sra.df` (R324). -/
@[simp] def sra : Fmt → Reg → Reg → Reg → Instr
  | .b => .sraB
  | .h => .sraH
  | .w => .sraW
  | .d => .sraD

/-- `srai.df` (R325). -/
@[simp] def srai : Fmt → Reg → Reg → Nat → Instr
  | .b => .sraiB
  | .h => .sraiH
  | .w => .sraiW
  | .d => .sraiD

/-- `srl.df` (R326). -/
@[simp] def srl : Fmt → Reg → Reg → Reg → Instr
  | .b => .srlB
  | .h => .srlH
  | .w => .srlW
  | .d => .srlD

/-- `srli.df` (R327). -/
@[simp] def srli : Fmt → Reg → Reg → Nat → Instr
  | .b => .srliB
  | .h => .srliH
  | .w => .srliW
  | .d => .srliD

/-- `srar.df` (R328). -/
@[simp] def srar : Fmt → Reg → Reg → Reg → Instr
  | .b => .srarB
  | .h => .srarH
  | .w => .srarW
  | .d => .srarD

/-- `srari.df` (R329). -/
@[simp] def srari : Fmt → Reg → Reg → Nat → Instr
  | .b => .srariB
  | .h => .srariH
  | .w => .srariW
  | .d => .srariD

/-- `srlr.df` (R330). -/
@[simp] def srlr : Fmt → Reg → Reg → Reg → Instr
  | .b => .srlrB
  | .h => .srlrH
  | .w => .srlrW
  | .d => .srlrD

/-- `srlri.df` (R331). -/
@[simp] def srlri : Fmt → Reg → Reg → Nat → Instr
  | .b => .srlriB
  | .h => .srlriH
  | .w => .srlriW
  | .d => .srlriD

/-- `ilvev.df` (R341). -/
@[simp] def ilvev : Fmt → Reg → Reg → Reg → Instr
  | .b => .ilvevB
  | .h => .ilvevH
  | .w => .ilvevW
  | .d => .ilvevD

/-- `ilvod.df` (R342). -/
@[simp] def ilvod : Fmt → Reg → Reg → Reg → Instr
  | .b => .ilvodB
  | .h => .ilvodH
  | .w => .ilvodW
  | .d => .ilvodD

/-- `ilvl.df` (R343). -/
@[simp] def ilvl : Fmt → Reg → Reg → Reg → Instr
  | .b => .ilvlB
  | .h => .ilvlH
  | .w => .ilvlW
  | .d => .ilvlD

/-- `ilvr.df` (R344). -/
@[simp] def ilvr : Fmt → Reg → Reg → Reg → Instr
  | .b => .ilvrB
  | .h => .ilvrH
  | .w => .ilvrW
  | .d => .ilvrD

/-- `pckev.df` (R345). -/
@[simp] def pckev : Fmt → Reg → Reg → Reg → Instr
  | .b => .pckevB
  | .h => .pckevH
  | .w => .pckevW
  | .d => .pckevD

/-- `pckod.df` (R346). -/
@[simp] def pckod : Fmt → Reg → Reg → Reg → Instr
  | .b => .pckodB
  | .h => .pckodH
  | .w => .pckodW
  | .d => .pckodD

/-- `vshf.df` (R347). -/
@[simp] def vshf : Fmt → Reg → Reg → Reg → Instr
  | .b => .vshfB
  | .h => .vshfH
  | .w => .vshfW
  | .d => .vshfD

/-- `shf.df` (R348). -/
@[simp] def shf : FmtBhw → Reg → Reg → Nat → Instr
  | .b => .shfB
  | .h => .shfH
  | .w => .shfW

/-- `sld.df` (R349). -/
@[simp] def sld : Fmt → Reg → Reg → Gpr → Instr
  | .b => .sldB
  | .h => .sldH
  | .w => .sldW
  | .d => .sldD

/-- `sldi.df` (R350). -/
@[simp] def sldi : Fmt → Reg → Reg → Nat → Instr
  | .b => .sldiB
  | .h => .sldiH
  | .w => .sldiW
  | .d => .sldiD

/-- `splat.df` (R351). -/
@[simp] def splat : Fmt → Reg → Reg → Gpr → Instr
  | .b => .splatB
  | .h => .splatH
  | .w => .splatW
  | .d => .splatD

/-- `splati.df` (R352). -/
@[simp] def splati : Fmt → Reg → Reg → Nat → Instr
  | .b => .splatiB
  | .h => .splatiH
  | .w => .splatiW
  | .d => .splatiD

/-- `ldi.df` (R353). -/
@[simp] def ldi : Fmt → Reg → Int → Instr
  | .b => .ldiB
  | .h => .ldiH
  | .w => .ldiW
  | .d => .ldiD

end

end Instr

end Sys2Proof
end

