-- ==== Sys2Proof/WellFormed.lean ====
section
/-! DEFINITION. Which descriptors have a meaning, and which of those an instruction word can spell.

`wellFormed` is 30_encoding R83: every immediate other than a lane index lies in the range its operation
takes. `laneIndex` names the immediate lane index of the six operations that check one (R84, 40 R136).
`encodable` adds what a word can carry: an in-range lane index (R91, R92). `needsGprLen64` marks the four
rows that exist only when `GPRLEN = 64` (R107). `Reject` names why a word spells nothing. -/

namespace Sys2Proof

/-- Why a word spells no instruction of the block (30_encoding R106, R107). -/
inductive Reject
  /-- Bits 31:26 are not 011110: not an MSA word (R85). -/
  | notMsa
  /-- The minor opcode is reserved (R86). -/
  | reservedMinor
  /-- The operation field is reserved (R99 to R105). -/
  | reservedOperation
  /-- The df, df/m or df/n field is reserved, or reserved with this operation (R91, R92, R102, R107). -/
  | reservedFormat
  /-- An MSA instruction outside the block: floating point, load and store, control-register move
  (00_scope R6, 30_encoding R86, R103 to R105). -/
  | outsideBlock
deriving DecidableEq, Repr

/-- `s5` lies in [-16, 15] (30_encoding R83, R96). -/
def s5Ok (v : Int) : Bool := decide (-16 ≤ v) && decide (v ≤ 15)

/-- `u5` lies in [0, 31] (R83, R96). -/
def u5Ok (v : Nat) : Bool := decide (v ≤ 31)

/-- `i8` lies in [0, 255] (R83, R97). -/
def i8Ok (v : Nat) : Bool := decide (v ≤ 255)

/-- `s10` lies in [-512, 511] (R83, R97). -/
def s10Ok (v : Int) : Bool := decide (-512 ≤ v) && decide (v ≤ 511)

/-- A bit count or position `m` lies in [0, laneBits(df) - 1] (R83, R91). -/
def mOk (df : Fmt) (m : Nat) : Bool := decide (m < laneBits df)

/-- A lane index `n` lies in [0, laneCount(df) - 1] (R84, R92). -/
def nOk (df : Fmt) (n : Nat) : Bool := decide (n < laneCount df)

namespace Instr

/-- Every immediate other than a lane index is in its range (30_encoding R83). -/
def wellFormed : Instr → Bool
  | .copySB _ _ _ | .copySH _ _ _ | .copySW _ _ _ | .copySD _ _ _ => true
  | .copyUB _ _ _ | .copyUH _ _ _ | .copyUW _ _ _ => true
  | .insertB _ _ _ | .insertH _ _ _ | .insertW _ _ _ | .insertD _ _ _ => true
  | .insveB _ _ _ | .insveH _ _ _ | .insveW _ _ _ | .insveD _ _ _ => true
  | .fillB _ _ | .fillH _ _ | .fillW _ _ | .fillD _ _ => true
  | .moveV _ _ => true
  | .addvB _ _ _ | .addvH _ _ _ | .addvW _ _ _ | .addvD _ _ _ => true
  | .addviB _ _ u5 | .addviH _ _ u5 | .addviW _ _ u5 | .addviD _ _ u5 => u5Ok u5
  | .subvB _ _ _ | .subvH _ _ _ | .subvW _ _ _ | .subvD _ _ _ => true
  | .subviB _ _ u5 | .subviH _ _ u5 | .subviW _ _ u5 | .subviD _ _ u5 => u5Ok u5
  | .addsSB _ _ _ | .addsSH _ _ _ | .addsSW _ _ _ | .addsSD _ _ _ => true
  | .addsUB _ _ _ | .addsUH _ _ _ | .addsUW _ _ _ | .addsUD _ _ _ => true
  | .subsSB _ _ _ | .subsSH _ _ _ | .subsSW _ _ _ | .subsSD _ _ _ => true
  | .subsUB _ _ _ | .subsUH _ _ _ | .subsUW _ _ _ | .subsUD _ _ _ => true
  | .subsusUB _ _ _ | .subsusUH _ _ _ | .subsusUW _ _ _ | .subsusUD _ _ _ => true
  | .subsuuSB _ _ _ | .subsuuSH _ _ _ | .subsuuSW _ _ _ | .subsuuSD _ _ _ => true
  | .asubSB _ _ _ | .asubSH _ _ _ | .asubSW _ _ _ | .asubSD _ _ _ => true
  | .asubUB _ _ _ | .asubUH _ _ _ | .asubUW _ _ _ | .asubUD _ _ _ => true
  | .addAB _ _ _ | .addAH _ _ _ | .addAW _ _ _ | .addAD _ _ _ => true
  | .addsAB _ _ _ | .addsAH _ _ _ | .addsAW _ _ _ | .addsAD _ _ _ => true
  | .aveSB _ _ _ | .aveSH _ _ _ | .aveSW _ _ _ | .aveSD _ _ _ => true
  | .aveUB _ _ _ | .aveUH _ _ _ | .aveUW _ _ _ | .aveUD _ _ _ => true
  | .averSB _ _ _ | .averSH _ _ _ | .averSW _ _ _ | .averSD _ _ _ => true
  | .averUB _ _ _ | .averUH _ _ _ | .averUW _ _ _ | .averUD _ _ _ => true
  | .maxAB _ _ _ | .maxAH _ _ _ | .maxAW _ _ _ | .maxAD _ _ _ => true
  | .minAB _ _ _ | .minAH _ _ _ | .minAW _ _ _ | .minAD _ _ _ => true
  | .maxSB _ _ _ | .maxSH _ _ _ | .maxSW _ _ _ | .maxSD _ _ _ => true
  | .maxUB _ _ _ | .maxUH _ _ _ | .maxUW _ _ _ | .maxUD _ _ _ => true
  | .minSB _ _ _ | .minSH _ _ _ | .minSW _ _ _ | .minSD _ _ _ => true
  | .minUB _ _ _ | .minUH _ _ _ | .minUW _ _ _ | .minUD _ _ _ => true
  | .maxiSB _ _ s5 | .maxiSH _ _ s5 | .maxiSW _ _ s5 | .maxiSD _ _ s5 => s5Ok s5
  | .maxiUB _ _ u5 | .maxiUH _ _ u5 | .maxiUW _ _ u5 | .maxiUD _ _ u5 => u5Ok u5
  | .miniSB _ _ s5 | .miniSH _ _ s5 | .miniSW _ _ s5 | .miniSD _ _ s5 => s5Ok s5
  | .miniUB _ _ u5 | .miniUH _ _ u5 | .miniUW _ _ u5 | .miniUD _ _ u5 => u5Ok u5
  | .ceqB _ _ _ | .ceqH _ _ _ | .ceqW _ _ _ | .ceqD _ _ _ => true
  | .ceqiB _ _ s5 | .ceqiH _ _ s5 | .ceqiW _ _ s5 | .ceqiD _ _ s5 => s5Ok s5
  | .cltSB _ _ _ | .cltSH _ _ _ | .cltSW _ _ _ | .cltSD _ _ _ => true
  | .cltUB _ _ _ | .cltUH _ _ _ | .cltUW _ _ _ | .cltUD _ _ _ => true
  | .cltiSB _ _ s5 | .cltiSH _ _ s5 | .cltiSW _ _ s5 | .cltiSD _ _ s5 => s5Ok s5
  | .cltiUB _ _ u5 | .cltiUH _ _ u5 | .cltiUW _ _ u5 | .cltiUD _ _ u5 => u5Ok u5
  | .cleSB _ _ _ | .cleSH _ _ _ | .cleSW _ _ _ | .cleSD _ _ _ => true
  | .cleUB _ _ _ | .cleUH _ _ _ | .cleUW _ _ _ | .cleUD _ _ _ => true
  | .cleiSB _ _ s5 | .cleiSH _ _ s5 | .cleiSW _ _ s5 | .cleiSD _ _ s5 => s5Ok s5
  | .cleiUB _ _ u5 | .cleiUH _ _ u5 | .cleiUW _ _ u5 | .cleiUD _ _ u5 => u5Ok u5
  | .haddSH _ _ _ | .haddSW _ _ _ | .haddSD _ _ _ => true
  | .haddUH _ _ _ | .haddUW _ _ _ | .haddUD _ _ _ => true
  | .hsubSH _ _ _ | .hsubSW _ _ _ | .hsubSD _ _ _ => true
  | .hsubUH _ _ _ | .hsubUW _ _ _ | .hsubUD _ _ _ => true
  | .dotpSH _ _ _ | .dotpSW _ _ _ | .dotpSD _ _ _ => true
  | .dotpUH _ _ _ | .dotpUW _ _ _ | .dotpUD _ _ _ => true
  | .dpaddSH _ _ _ | .dpaddSW _ _ _ | .dpaddSD _ _ _ => true
  | .dpaddUH _ _ _ | .dpaddUW _ _ _ | .dpaddUD _ _ _ => true
  | .dpsubSH _ _ _ | .dpsubSW _ _ _ | .dpsubSD _ _ _ => true
  | .dpsubUH _ _ _ | .dpsubUW _ _ _ | .dpsubUD _ _ _ => true
  | .mulvB _ _ _ | .mulvH _ _ _ | .mulvW _ _ _ | .mulvD _ _ _ => true
  | .maddvB _ _ _ | .maddvH _ _ _ | .maddvW _ _ _ | .maddvD _ _ _ => true
  | .msubvB _ _ _ | .msubvH _ _ _ | .msubvW _ _ _ | .msubvD _ _ _ => true
  | .divSB _ _ _ | .divSH _ _ _ | .divSW _ _ _ | .divSD _ _ _ => true
  | .divUB _ _ _ | .divUH _ _ _ | .divUW _ _ _ | .divUD _ _ _ => true
  | .modSB _ _ _ | .modSH _ _ _ | .modSW _ _ _ | .modSD _ _ _ => true
  | .modUB _ _ _ | .modUH _ _ _ | .modUW _ _ _ | .modUD _ _ _ => true
  | .mulQH _ _ _ | .mulQW _ _ _ => true
  | .mulrQH _ _ _ | .mulrQW _ _ _ => true
  | .maddQH _ _ _ | .maddQW _ _ _ => true
  | .maddrQH _ _ _ | .maddrQW _ _ _ => true
  | .msubQH _ _ _ | .msubQW _ _ _ => true
  | .msubrQH _ _ _ | .msubrQW _ _ _ => true
  | .bclrB _ _ _ | .bclrH _ _ _ | .bclrW _ _ _ | .bclrD _ _ _ => true
  | .bclriB _ _ m => mOk .b m
  | .bclriH _ _ m => mOk .h m
  | .bclriW _ _ m => mOk .w m
  | .bclriD _ _ m => mOk .d m
  | .bsetB _ _ _ | .bsetH _ _ _ | .bsetW _ _ _ | .bsetD _ _ _ => true
  | .bsetiB _ _ m => mOk .b m
  | .bsetiH _ _ m => mOk .h m
  | .bsetiW _ _ m => mOk .w m
  | .bsetiD _ _ m => mOk .d m
  | .bnegB _ _ _ | .bnegH _ _ _ | .bnegW _ _ _ | .bnegD _ _ _ => true
  | .bnegiB _ _ m => mOk .b m
  | .bnegiH _ _ m => mOk .h m
  | .bnegiW _ _ m => mOk .w m
  | .bnegiD _ _ m => mOk .d m
  | .binslB _ _ _ | .binslH _ _ _ | .binslW _ _ _ | .binslD _ _ _ => true
  | .binsliB _ _ m => mOk .b m
  | .binsliH _ _ m => mOk .h m
  | .binsliW _ _ m => mOk .w m
  | .binsliD _ _ m => mOk .d m
  | .binsrB _ _ _ | .binsrH _ _ _ | .binsrW _ _ _ | .binsrD _ _ _ => true
  | .binsriB _ _ m => mOk .b m
  | .binsriH _ _ m => mOk .h m
  | .binsriW _ _ m => mOk .w m
  | .binsriD _ _ m => mOk .d m
  | .satSB _ _ m => mOk .b m
  | .satSH _ _ m => mOk .h m
  | .satSW _ _ m => mOk .w m
  | .satSD _ _ m => mOk .d m
  | .satUB _ _ m => mOk .b m
  | .satUH _ _ m => mOk .h m
  | .satUW _ _ m => mOk .w m
  | .satUD _ _ m => mOk .d m
  | .pcntB _ _ | .pcntH _ _ | .pcntW _ _ | .pcntD _ _ => true
  | .nlocB _ _ | .nlocH _ _ | .nlocW _ _ | .nlocD _ _ => true
  | .nlzcB _ _ | .nlzcH _ _ | .nlzcW _ _ | .nlzcD _ _ => true
  | .andV _ _ _ => true
  | .orV _ _ _ => true
  | .norV _ _ _ => true
  | .xorV _ _ _ => true
  | .andiB _ _ i8 => i8Ok i8
  | .oriB _ _ i8 => i8Ok i8
  | .noriB _ _ i8 => i8Ok i8
  | .xoriB _ _ i8 => i8Ok i8
  | .bmnzV _ _ _ => true
  | .bmzV _ _ _ => true
  | .bselV _ _ _ => true
  | .bmnziB _ _ i8 => i8Ok i8
  | .bmziB _ _ i8 => i8Ok i8
  | .bseliB _ _ i8 => i8Ok i8
  | .sllB _ _ _ | .sllH _ _ _ | .sllW _ _ _ | .sllD _ _ _ => true
  | .slliB _ _ m => mOk .b m
  | .slliH _ _ m => mOk .h m
  | .slliW _ _ m => mOk .w m
  | .slliD _ _ m => mOk .d m
  | .sraB _ _ _ | .sraH _ _ _ | .sraW _ _ _ | .sraD _ _ _ => true
  | .sraiB _ _ m => mOk .b m
  | .sraiH _ _ m => mOk .h m
  | .sraiW _ _ m => mOk .w m
  | .sraiD _ _ m => mOk .d m
  | .srlB _ _ _ | .srlH _ _ _ | .srlW _ _ _ | .srlD _ _ _ => true
  | .srliB _ _ m => mOk .b m
  | .srliH _ _ m => mOk .h m
  | .srliW _ _ m => mOk .w m
  | .srliD _ _ m => mOk .d m
  | .srarB _ _ _ | .srarH _ _ _ | .srarW _ _ _ | .srarD _ _ _ => true
  | .srariB _ _ m => mOk .b m
  | .srariH _ _ m => mOk .h m
  | .srariW _ _ m => mOk .w m
  | .srariD _ _ m => mOk .d m
  | .srlrB _ _ _ | .srlrH _ _ _ | .srlrW _ _ _ | .srlrD _ _ _ => true
  | .srlriB _ _ m => mOk .b m
  | .srlriH _ _ m => mOk .h m
  | .srlriW _ _ m => mOk .w m
  | .srlriD _ _ m => mOk .d m
  | .ilvevB _ _ _ | .ilvevH _ _ _ | .ilvevW _ _ _ | .ilvevD _ _ _ => true
  | .ilvodB _ _ _ | .ilvodH _ _ _ | .ilvodW _ _ _ | .ilvodD _ _ _ => true
  | .ilvlB _ _ _ | .ilvlH _ _ _ | .ilvlW _ _ _ | .ilvlD _ _ _ => true
  | .ilvrB _ _ _ | .ilvrH _ _ _ | .ilvrW _ _ _ | .ilvrD _ _ _ => true
  | .pckevB _ _ _ | .pckevH _ _ _ | .pckevW _ _ _ | .pckevD _ _ _ => true
  | .pckodB _ _ _ | .pckodH _ _ _ | .pckodW _ _ _ | .pckodD _ _ _ => true
  | .vshfB _ _ _ | .vshfH _ _ _ | .vshfW _ _ _ | .vshfD _ _ _ => true
  | .shfB _ _ i8 | .shfH _ _ i8 | .shfW _ _ i8 => i8Ok i8
  | .sldB _ _ _ | .sldH _ _ _ | .sldW _ _ _ | .sldD _ _ _ => true
  | .sldiB _ _ _ | .sldiH _ _ _ | .sldiW _ _ _ | .sldiD _ _ _ => true
  | .splatB _ _ _ | .splatH _ _ _ | .splatW _ _ _ | .splatD _ _ _ => true
  | .splatiB _ _ _ | .splatiH _ _ _ | .splatiW _ _ _ | .splatiD _ _ _ => true
  | .ldiB _ s10 | .ldiH _ s10 | .ldiW _ s10 | .ldiD _ s10 => s10Ok s10

/-- The immediate lane index an instruction checks, with its format (40 R136): the operations `sldi`,
`splati`, `copy_s`, `copy_u`, `insert` and `insve`, and no other (60 R371). -/
def laneIndex : Instr → Option (Fmt × Nat)
  | .copySB _ _ n => some (.b, n)
  | .copySH _ _ n => some (.h, n)
  | .copySW _ _ n => some (.w, n)
  | .copySD _ _ n => some (.d, n)
  | .copyUB _ _ n => some (.b, n)
  | .copyUH _ _ n => some (.h, n)
  | .copyUW _ _ n => some (.w, n)
  | .insertB _ _ n => some (.b, n)
  | .insertH _ _ n => some (.h, n)
  | .insertW _ _ n => some (.w, n)
  | .insertD _ _ n => some (.d, n)
  | .insveB _ _ n => some (.b, n)
  | .insveH _ _ n => some (.h, n)
  | .insveW _ _ n => some (.w, n)
  | .insveD _ _ n => some (.d, n)
  | .fillB _ _ | .fillH _ _ | .fillW _ _ | .fillD _ _ => none
  | .moveV _ _ => none
  | .addvB _ _ _ | .addvH _ _ _ | .addvW _ _ _ | .addvD _ _ _ => none
  | .addviB _ _ _ | .addviH _ _ _ | .addviW _ _ _ | .addviD _ _ _ => none
  | .subvB _ _ _ | .subvH _ _ _ | .subvW _ _ _ | .subvD _ _ _ => none
  | .subviB _ _ _ | .subviH _ _ _ | .subviW _ _ _ | .subviD _ _ _ => none
  | .addsSB _ _ _ | .addsSH _ _ _ | .addsSW _ _ _ | .addsSD _ _ _ => none
  | .addsUB _ _ _ | .addsUH _ _ _ | .addsUW _ _ _ | .addsUD _ _ _ => none
  | .subsSB _ _ _ | .subsSH _ _ _ | .subsSW _ _ _ | .subsSD _ _ _ => none
  | .subsUB _ _ _ | .subsUH _ _ _ | .subsUW _ _ _ | .subsUD _ _ _ => none
  | .subsusUB _ _ _ | .subsusUH _ _ _ | .subsusUW _ _ _ | .subsusUD _ _ _ => none
  | .subsuuSB _ _ _ | .subsuuSH _ _ _ | .subsuuSW _ _ _ | .subsuuSD _ _ _ => none
  | .asubSB _ _ _ | .asubSH _ _ _ | .asubSW _ _ _ | .asubSD _ _ _ => none
  | .asubUB _ _ _ | .asubUH _ _ _ | .asubUW _ _ _ | .asubUD _ _ _ => none
  | .addAB _ _ _ | .addAH _ _ _ | .addAW _ _ _ | .addAD _ _ _ => none
  | .addsAB _ _ _ | .addsAH _ _ _ | .addsAW _ _ _ | .addsAD _ _ _ => none
  | .aveSB _ _ _ | .aveSH _ _ _ | .aveSW _ _ _ | .aveSD _ _ _ => none
  | .aveUB _ _ _ | .aveUH _ _ _ | .aveUW _ _ _ | .aveUD _ _ _ => none
  | .averSB _ _ _ | .averSH _ _ _ | .averSW _ _ _ | .averSD _ _ _ => none
  | .averUB _ _ _ | .averUH _ _ _ | .averUW _ _ _ | .averUD _ _ _ => none
  | .maxAB _ _ _ | .maxAH _ _ _ | .maxAW _ _ _ | .maxAD _ _ _ => none
  | .minAB _ _ _ | .minAH _ _ _ | .minAW _ _ _ | .minAD _ _ _ => none
  | .maxSB _ _ _ | .maxSH _ _ _ | .maxSW _ _ _ | .maxSD _ _ _ => none
  | .maxUB _ _ _ | .maxUH _ _ _ | .maxUW _ _ _ | .maxUD _ _ _ => none
  | .minSB _ _ _ | .minSH _ _ _ | .minSW _ _ _ | .minSD _ _ _ => none
  | .minUB _ _ _ | .minUH _ _ _ | .minUW _ _ _ | .minUD _ _ _ => none
  | .maxiSB _ _ _ | .maxiSH _ _ _ | .maxiSW _ _ _ | .maxiSD _ _ _ => none
  | .maxiUB _ _ _ | .maxiUH _ _ _ | .maxiUW _ _ _ | .maxiUD _ _ _ => none
  | .miniSB _ _ _ | .miniSH _ _ _ | .miniSW _ _ _ | .miniSD _ _ _ => none
  | .miniUB _ _ _ | .miniUH _ _ _ | .miniUW _ _ _ | .miniUD _ _ _ => none
  | .ceqB _ _ _ | .ceqH _ _ _ | .ceqW _ _ _ | .ceqD _ _ _ => none
  | .ceqiB _ _ _ | .ceqiH _ _ _ | .ceqiW _ _ _ | .ceqiD _ _ _ => none
  | .cltSB _ _ _ | .cltSH _ _ _ | .cltSW _ _ _ | .cltSD _ _ _ => none
  | .cltUB _ _ _ | .cltUH _ _ _ | .cltUW _ _ _ | .cltUD _ _ _ => none
  | .cltiSB _ _ _ | .cltiSH _ _ _ | .cltiSW _ _ _ | .cltiSD _ _ _ => none
  | .cltiUB _ _ _ | .cltiUH _ _ _ | .cltiUW _ _ _ | .cltiUD _ _ _ => none
  | .cleSB _ _ _ | .cleSH _ _ _ | .cleSW _ _ _ | .cleSD _ _ _ => none
  | .cleUB _ _ _ | .cleUH _ _ _ | .cleUW _ _ _ | .cleUD _ _ _ => none
  | .cleiSB _ _ _ | .cleiSH _ _ _ | .cleiSW _ _ _ | .cleiSD _ _ _ => none
  | .cleiUB _ _ _ | .cleiUH _ _ _ | .cleiUW _ _ _ | .cleiUD _ _ _ => none
  | .haddSH _ _ _ | .haddSW _ _ _ | .haddSD _ _ _ => none
  | .haddUH _ _ _ | .haddUW _ _ _ | .haddUD _ _ _ => none
  | .hsubSH _ _ _ | .hsubSW _ _ _ | .hsubSD _ _ _ => none
  | .hsubUH _ _ _ | .hsubUW _ _ _ | .hsubUD _ _ _ => none
  | .dotpSH _ _ _ | .dotpSW _ _ _ | .dotpSD _ _ _ => none
  | .dotpUH _ _ _ | .dotpUW _ _ _ | .dotpUD _ _ _ => none
  | .dpaddSH _ _ _ | .dpaddSW _ _ _ | .dpaddSD _ _ _ => none
  | .dpaddUH _ _ _ | .dpaddUW _ _ _ | .dpaddUD _ _ _ => none
  | .dpsubSH _ _ _ | .dpsubSW _ _ _ | .dpsubSD _ _ _ => none
  | .dpsubUH _ _ _ | .dpsubUW _ _ _ | .dpsubUD _ _ _ => none
  | .mulvB _ _ _ | .mulvH _ _ _ | .mulvW _ _ _ | .mulvD _ _ _ => none
  | .maddvB _ _ _ | .maddvH _ _ _ | .maddvW _ _ _ | .maddvD _ _ _ => none
  | .msubvB _ _ _ | .msubvH _ _ _ | .msubvW _ _ _ | .msubvD _ _ _ => none
  | .divSB _ _ _ | .divSH _ _ _ | .divSW _ _ _ | .divSD _ _ _ => none
  | .divUB _ _ _ | .divUH _ _ _ | .divUW _ _ _ | .divUD _ _ _ => none
  | .modSB _ _ _ | .modSH _ _ _ | .modSW _ _ _ | .modSD _ _ _ => none
  | .modUB _ _ _ | .modUH _ _ _ | .modUW _ _ _ | .modUD _ _ _ => none
  | .mulQH _ _ _ | .mulQW _ _ _ => none
  | .mulrQH _ _ _ | .mulrQW _ _ _ => none
  | .maddQH _ _ _ | .maddQW _ _ _ => none
  | .maddrQH _ _ _ | .maddrQW _ _ _ => none
  | .msubQH _ _ _ | .msubQW _ _ _ => none
  | .msubrQH _ _ _ | .msubrQW _ _ _ => none
  | .bclrB _ _ _ | .bclrH _ _ _ | .bclrW _ _ _ | .bclrD _ _ _ => none
  | .bclriB _ _ _ | .bclriH _ _ _ | .bclriW _ _ _ | .bclriD _ _ _ => none
  | .bsetB _ _ _ | .bsetH _ _ _ | .bsetW _ _ _ | .bsetD _ _ _ => none
  | .bsetiB _ _ _ | .bsetiH _ _ _ | .bsetiW _ _ _ | .bsetiD _ _ _ => none
  | .bnegB _ _ _ | .bnegH _ _ _ | .bnegW _ _ _ | .bnegD _ _ _ => none
  | .bnegiB _ _ _ | .bnegiH _ _ _ | .bnegiW _ _ _ | .bnegiD _ _ _ => none
  | .binslB _ _ _ | .binslH _ _ _ | .binslW _ _ _ | .binslD _ _ _ => none
  | .binsliB _ _ _ | .binsliH _ _ _ | .binsliW _ _ _ | .binsliD _ _ _ => none
  | .binsrB _ _ _ | .binsrH _ _ _ | .binsrW _ _ _ | .binsrD _ _ _ => none
  | .binsriB _ _ _ | .binsriH _ _ _ | .binsriW _ _ _ | .binsriD _ _ _ => none
  | .satSB _ _ _ | .satSH _ _ _ | .satSW _ _ _ | .satSD _ _ _ => none
  | .satUB _ _ _ | .satUH _ _ _ | .satUW _ _ _ | .satUD _ _ _ => none
  | .pcntB _ _ | .pcntH _ _ | .pcntW _ _ | .pcntD _ _ => none
  | .nlocB _ _ | .nlocH _ _ | .nlocW _ _ | .nlocD _ _ => none
  | .nlzcB _ _ | .nlzcH _ _ | .nlzcW _ _ | .nlzcD _ _ => none
  | .andV _ _ _ => none
  | .orV _ _ _ => none
  | .norV _ _ _ => none
  | .xorV _ _ _ => none
  | .andiB _ _ _ => none
  | .oriB _ _ _ => none
  | .noriB _ _ _ => none
  | .xoriB _ _ _ => none
  | .bmnzV _ _ _ => none
  | .bmzV _ _ _ => none
  | .bselV _ _ _ => none
  | .bmnziB _ _ _ => none
  | .bmziB _ _ _ => none
  | .bseliB _ _ _ => none
  | .sllB _ _ _ | .sllH _ _ _ | .sllW _ _ _ | .sllD _ _ _ => none
  | .slliB _ _ _ | .slliH _ _ _ | .slliW _ _ _ | .slliD _ _ _ => none
  | .sraB _ _ _ | .sraH _ _ _ | .sraW _ _ _ | .sraD _ _ _ => none
  | .sraiB _ _ _ | .sraiH _ _ _ | .sraiW _ _ _ | .sraiD _ _ _ => none
  | .srlB _ _ _ | .srlH _ _ _ | .srlW _ _ _ | .srlD _ _ _ => none
  | .srliB _ _ _ | .srliH _ _ _ | .srliW _ _ _ | .srliD _ _ _ => none
  | .srarB _ _ _ | .srarH _ _ _ | .srarW _ _ _ | .srarD _ _ _ => none
  | .srariB _ _ _ | .srariH _ _ _ | .srariW _ _ _ | .srariD _ _ _ => none
  | .srlrB _ _ _ | .srlrH _ _ _ | .srlrW _ _ _ | .srlrD _ _ _ => none
  | .srlriB _ _ _ | .srlriH _ _ _ | .srlriW _ _ _ | .srlriD _ _ _ => none
  | .ilvevB _ _ _ | .ilvevH _ _ _ | .ilvevW _ _ _ | .ilvevD _ _ _ => none
  | .ilvodB _ _ _ | .ilvodH _ _ _ | .ilvodW _ _ _ | .ilvodD _ _ _ => none
  | .ilvlB _ _ _ | .ilvlH _ _ _ | .ilvlW _ _ _ | .ilvlD _ _ _ => none
  | .ilvrB _ _ _ | .ilvrH _ _ _ | .ilvrW _ _ _ | .ilvrD _ _ _ => none
  | .pckevB _ _ _ | .pckevH _ _ _ | .pckevW _ _ _ | .pckevD _ _ _ => none
  | .pckodB _ _ _ | .pckodH _ _ _ | .pckodW _ _ _ | .pckodD _ _ _ => none
  | .vshfB _ _ _ | .vshfH _ _ _ | .vshfW _ _ _ | .vshfD _ _ _ => none
  | .shfB _ _ _ | .shfH _ _ _ | .shfW _ _ _ => none
  | .sldB _ _ _ | .sldH _ _ _ | .sldW _ _ _ | .sldD _ _ _ => none
  | .sldiB _ _ n => some (.b, n)
  | .sldiH _ _ n => some (.h, n)
  | .sldiW _ _ n => some (.w, n)
  | .sldiD _ _ n => some (.d, n)
  | .splatB _ _ _ | .splatH _ _ _ | .splatW _ _ _ | .splatD _ _ _ => none
  | .splatiB _ _ n => some (.b, n)
  | .splatiH _ _ n => some (.h, n)
  | .splatiW _ _ n => some (.w, n)
  | .splatiD _ _ n => some (.d, n)
  | .ldiB _ _ | .ldiH _ _ | .ldiW _ _ | .ldiD _ _ => none

/-- The rows that carry `"gprlen": 64` in the opcode table: reserved when `GPRLEN = 32` (R107). -/
def needsGprLen64 : Instr → Bool
  | .copySB _ _ _ | .copySH _ _ _ | .copySW _ _ _ => false
  | .copySD _ _ _ => true
  | .copyUB _ _ _ | .copyUH _ _ _ => false
  | .copyUW _ _ _ => true
  | .insertB _ _ _ | .insertH _ _ _ | .insertW _ _ _ => false
  | .insertD _ _ _ => true
  | .insveB _ _ _ | .insveH _ _ _ | .insveW _ _ _ | .insveD _ _ _ => false
  | .fillB _ _ | .fillH _ _ | .fillW _ _ => false
  | .fillD _ _ => true
  | .moveV _ _ => false
  | .addvB _ _ _ | .addvH _ _ _ | .addvW _ _ _ | .addvD _ _ _ => false
  | .addviB _ _ _ | .addviH _ _ _ | .addviW _ _ _ | .addviD _ _ _ => false
  | .subvB _ _ _ | .subvH _ _ _ | .subvW _ _ _ | .subvD _ _ _ => false
  | .subviB _ _ _ | .subviH _ _ _ | .subviW _ _ _ | .subviD _ _ _ => false
  | .addsSB _ _ _ | .addsSH _ _ _ | .addsSW _ _ _ | .addsSD _ _ _ => false
  | .addsUB _ _ _ | .addsUH _ _ _ | .addsUW _ _ _ | .addsUD _ _ _ => false
  | .subsSB _ _ _ | .subsSH _ _ _ | .subsSW _ _ _ | .subsSD _ _ _ => false
  | .subsUB _ _ _ | .subsUH _ _ _ | .subsUW _ _ _ | .subsUD _ _ _ => false
  | .subsusUB _ _ _ | .subsusUH _ _ _ | .subsusUW _ _ _ | .subsusUD _ _ _ => false
  | .subsuuSB _ _ _ | .subsuuSH _ _ _ | .subsuuSW _ _ _ | .subsuuSD _ _ _ => false
  | .asubSB _ _ _ | .asubSH _ _ _ | .asubSW _ _ _ | .asubSD _ _ _ => false
  | .asubUB _ _ _ | .asubUH _ _ _ | .asubUW _ _ _ | .asubUD _ _ _ => false
  | .addAB _ _ _ | .addAH _ _ _ | .addAW _ _ _ | .addAD _ _ _ => false
  | .addsAB _ _ _ | .addsAH _ _ _ | .addsAW _ _ _ | .addsAD _ _ _ => false
  | .aveSB _ _ _ | .aveSH _ _ _ | .aveSW _ _ _ | .aveSD _ _ _ => false
  | .aveUB _ _ _ | .aveUH _ _ _ | .aveUW _ _ _ | .aveUD _ _ _ => false
  | .averSB _ _ _ | .averSH _ _ _ | .averSW _ _ _ | .averSD _ _ _ => false
  | .averUB _ _ _ | .averUH _ _ _ | .averUW _ _ _ | .averUD _ _ _ => false
  | .maxAB _ _ _ | .maxAH _ _ _ | .maxAW _ _ _ | .maxAD _ _ _ => false
  | .minAB _ _ _ | .minAH _ _ _ | .minAW _ _ _ | .minAD _ _ _ => false
  | .maxSB _ _ _ | .maxSH _ _ _ | .maxSW _ _ _ | .maxSD _ _ _ => false
  | .maxUB _ _ _ | .maxUH _ _ _ | .maxUW _ _ _ | .maxUD _ _ _ => false
  | .minSB _ _ _ | .minSH _ _ _ | .minSW _ _ _ | .minSD _ _ _ => false
  | .minUB _ _ _ | .minUH _ _ _ | .minUW _ _ _ | .minUD _ _ _ => false
  | .maxiSB _ _ _ | .maxiSH _ _ _ | .maxiSW _ _ _ | .maxiSD _ _ _ => false
  | .maxiUB _ _ _ | .maxiUH _ _ _ | .maxiUW _ _ _ | .maxiUD _ _ _ => false
  | .miniSB _ _ _ | .miniSH _ _ _ | .miniSW _ _ _ | .miniSD _ _ _ => false
  | .miniUB _ _ _ | .miniUH _ _ _ | .miniUW _ _ _ | .miniUD _ _ _ => false
  | .ceqB _ _ _ | .ceqH _ _ _ | .ceqW _ _ _ | .ceqD _ _ _ => false
  | .ceqiB _ _ _ | .ceqiH _ _ _ | .ceqiW _ _ _ | .ceqiD _ _ _ => false
  | .cltSB _ _ _ | .cltSH _ _ _ | .cltSW _ _ _ | .cltSD _ _ _ => false
  | .cltUB _ _ _ | .cltUH _ _ _ | .cltUW _ _ _ | .cltUD _ _ _ => false
  | .cltiSB _ _ _ | .cltiSH _ _ _ | .cltiSW _ _ _ | .cltiSD _ _ _ => false
  | .cltiUB _ _ _ | .cltiUH _ _ _ | .cltiUW _ _ _ | .cltiUD _ _ _ => false
  | .cleSB _ _ _ | .cleSH _ _ _ | .cleSW _ _ _ | .cleSD _ _ _ => false
  | .cleUB _ _ _ | .cleUH _ _ _ | .cleUW _ _ _ | .cleUD _ _ _ => false
  | .cleiSB _ _ _ | .cleiSH _ _ _ | .cleiSW _ _ _ | .cleiSD _ _ _ => false
  | .cleiUB _ _ _ | .cleiUH _ _ _ | .cleiUW _ _ _ | .cleiUD _ _ _ => false
  | .haddSH _ _ _ | .haddSW _ _ _ | .haddSD _ _ _ => false
  | .haddUH _ _ _ | .haddUW _ _ _ | .haddUD _ _ _ => false
  | .hsubSH _ _ _ | .hsubSW _ _ _ | .hsubSD _ _ _ => false
  | .hsubUH _ _ _ | .hsubUW _ _ _ | .hsubUD _ _ _ => false
  | .dotpSH _ _ _ | .dotpSW _ _ _ | .dotpSD _ _ _ => false
  | .dotpUH _ _ _ | .dotpUW _ _ _ | .dotpUD _ _ _ => false
  | .dpaddSH _ _ _ | .dpaddSW _ _ _ | .dpaddSD _ _ _ => false
  | .dpaddUH _ _ _ | .dpaddUW _ _ _ | .dpaddUD _ _ _ => false
  | .dpsubSH _ _ _ | .dpsubSW _ _ _ | .dpsubSD _ _ _ => false
  | .dpsubUH _ _ _ | .dpsubUW _ _ _ | .dpsubUD _ _ _ => false
  | .mulvB _ _ _ | .mulvH _ _ _ | .mulvW _ _ _ | .mulvD _ _ _ => false
  | .maddvB _ _ _ | .maddvH _ _ _ | .maddvW _ _ _ | .maddvD _ _ _ => false
  | .msubvB _ _ _ | .msubvH _ _ _ | .msubvW _ _ _ | .msubvD _ _ _ => false
  | .divSB _ _ _ | .divSH _ _ _ | .divSW _ _ _ | .divSD _ _ _ => false
  | .divUB _ _ _ | .divUH _ _ _ | .divUW _ _ _ | .divUD _ _ _ => false
  | .modSB _ _ _ | .modSH _ _ _ | .modSW _ _ _ | .modSD _ _ _ => false
  | .modUB _ _ _ | .modUH _ _ _ | .modUW _ _ _ | .modUD _ _ _ => false
  | .mulQH _ _ _ | .mulQW _ _ _ => false
  | .mulrQH _ _ _ | .mulrQW _ _ _ => false
  | .maddQH _ _ _ | .maddQW _ _ _ => false
  | .maddrQH _ _ _ | .maddrQW _ _ _ => false
  | .msubQH _ _ _ | .msubQW _ _ _ => false
  | .msubrQH _ _ _ | .msubrQW _ _ _ => false
  | .bclrB _ _ _ | .bclrH _ _ _ | .bclrW _ _ _ | .bclrD _ _ _ => false
  | .bclriB _ _ _ | .bclriH _ _ _ | .bclriW _ _ _ | .bclriD _ _ _ => false
  | .bsetB _ _ _ | .bsetH _ _ _ | .bsetW _ _ _ | .bsetD _ _ _ => false
  | .bsetiB _ _ _ | .bsetiH _ _ _ | .bsetiW _ _ _ | .bsetiD _ _ _ => false
  | .bnegB _ _ _ | .bnegH _ _ _ | .bnegW _ _ _ | .bnegD _ _ _ => false
  | .bnegiB _ _ _ | .bnegiH _ _ _ | .bnegiW _ _ _ | .bnegiD _ _ _ => false
  | .binslB _ _ _ | .binslH _ _ _ | .binslW _ _ _ | .binslD _ _ _ => false
  | .binsliB _ _ _ | .binsliH _ _ _ | .binsliW _ _ _ | .binsliD _ _ _ => false
  | .binsrB _ _ _ | .binsrH _ _ _ | .binsrW _ _ _ | .binsrD _ _ _ => false
  | .binsriB _ _ _ | .binsriH _ _ _ | .binsriW _ _ _ | .binsriD _ _ _ => false
  | .satSB _ _ _ | .satSH _ _ _ | .satSW _ _ _ | .satSD _ _ _ => false
  | .satUB _ _ _ | .satUH _ _ _ | .satUW _ _ _ | .satUD _ _ _ => false
  | .pcntB _ _ | .pcntH _ _ | .pcntW _ _ | .pcntD _ _ => false
  | .nlocB _ _ | .nlocH _ _ | .nlocW _ _ | .nlocD _ _ => false
  | .nlzcB _ _ | .nlzcH _ _ | .nlzcW _ _ | .nlzcD _ _ => false
  | .andV _ _ _ => false
  | .orV _ _ _ => false
  | .norV _ _ _ => false
  | .xorV _ _ _ => false
  | .andiB _ _ _ => false
  | .oriB _ _ _ => false
  | .noriB _ _ _ => false
  | .xoriB _ _ _ => false
  | .bmnzV _ _ _ => false
  | .bmzV _ _ _ => false
  | .bselV _ _ _ => false
  | .bmnziB _ _ _ => false
  | .bmziB _ _ _ => false
  | .bseliB _ _ _ => false
  | .sllB _ _ _ | .sllH _ _ _ | .sllW _ _ _ | .sllD _ _ _ => false
  | .slliB _ _ _ | .slliH _ _ _ | .slliW _ _ _ | .slliD _ _ _ => false
  | .sraB _ _ _ | .sraH _ _ _ | .sraW _ _ _ | .sraD _ _ _ => false
  | .sraiB _ _ _ | .sraiH _ _ _ | .sraiW _ _ _ | .sraiD _ _ _ => false
  | .srlB _ _ _ | .srlH _ _ _ | .srlW _ _ _ | .srlD _ _ _ => false
  | .srliB _ _ _ | .srliH _ _ _ | .srliW _ _ _ | .srliD _ _ _ => false
  | .srarB _ _ _ | .srarH _ _ _ | .srarW _ _ _ | .srarD _ _ _ => false
  | .srariB _ _ _ | .srariH _ _ _ | .srariW _ _ _ | .srariD _ _ _ => false
  | .srlrB _ _ _ | .srlrH _ _ _ | .srlrW _ _ _ | .srlrD _ _ _ => false
  | .srlriB _ _ _ | .srlriH _ _ _ | .srlriW _ _ _ | .srlriD _ _ _ => false
  | .ilvevB _ _ _ | .ilvevH _ _ _ | .ilvevW _ _ _ | .ilvevD _ _ _ => false
  | .ilvodB _ _ _ | .ilvodH _ _ _ | .ilvodW _ _ _ | .ilvodD _ _ _ => false
  | .ilvlB _ _ _ | .ilvlH _ _ _ | .ilvlW _ _ _ | .ilvlD _ _ _ => false
  | .ilvrB _ _ _ | .ilvrH _ _ _ | .ilvrW _ _ _ | .ilvrD _ _ _ => false
  | .pckevB _ _ _ | .pckevH _ _ _ | .pckevW _ _ _ | .pckevD _ _ _ => false
  | .pckodB _ _ _ | .pckodH _ _ _ | .pckodW _ _ _ | .pckodD _ _ _ => false
  | .vshfB _ _ _ | .vshfH _ _ _ | .vshfW _ _ _ | .vshfD _ _ _ => false
  | .shfB _ _ _ | .shfH _ _ _ | .shfW _ _ _ => false
  | .sldB _ _ _ | .sldH _ _ _ | .sldW _ _ _ | .sldD _ _ _ => false
  | .sldiB _ _ _ | .sldiH _ _ _ | .sldiW _ _ _ | .sldiD _ _ _ => false
  | .splatB _ _ _ | .splatH _ _ _ | .splatW _ _ _ | .splatD _ _ _ => false
  | .splatiB _ _ _ | .splatiH _ _ _ | .splatiW _ _ _ | .splatiD _ _ _ => false
  | .ldiB _ _ | .ldiH _ _ | .ldiW _ _ | .ldiD _ _ => false

/-- The lane index, where there is one, is in range (R84, R92). -/
def laneIndexOk (i : Instr) : Bool :=
  match i.laneIndex with
  | none => true
  | some (df, n) => nOk df n

/-- What an instruction word can spell: a well-formed descriptor whose lane index is in range (R84). -/
def encodable (i : Instr) : Bool := i.wellFormed && i.laneIndexOk

end Instr

end Sys2Proof
end

