-- ==== Sys2Proof/Decode.lean ====
section
/-! DEFINITION. The decoder from instruction words to instructions, and the encoder back (30_encoding R85 to
R107). Both are written from the spec's format tables; a word the tables do not spell is rejected by name.
The decoder takes any 32-bit word. The scalar width is not the decoder's: the four rows that need
`GPRLEN = 64` decode always, and their meanings refuse them at `GPRLEN = 32` (log 12).

The functions that build an `Instr` are not compiled (see `Syntax.lean`); the kernel evaluates them. -/

namespace Sys2Proof

noncomputable section

/-! ## Fields -/

/-- Bits `hi` down to `lo` of a word, unsigned (00_scope R14). -/
def field (x hi lo : Nat) : Nat := x / 2 ^ lo % 2 ^ (hi + 1 - lo)

/-- The register named by the 5-bit field at bits `lo + 4` to `lo` (30_encoding R98). -/
def regField (x lo : Nat) : Fin 32 := ⟨x / 2 ^ lo % 32, Nat.mod_lt _ (by decide)⟩

/-- `sext_n` of an n-bit field (30_encoding R96, R97). -/
def signed (n u : Nat) : Int := if u < 2 ^ (n - 1) then u else (u : Int) - 2 ^ n

/-- The n-bit field whose `signed` reading is `v`, for `v` in range. -/
def unsigned (n : Nat) (v : Int) : Nat := (v % 2 ^ n).toNat

/-- The 2-bit df field: 00 b, 01 h, 10 w, 11 d (R87). -/
def fmtOf (u : Nat) : Fmt :=
  match u with
  | 0 => .b
  | 1 => .h
  | 2 => .w
  | _ => .d

/-- The df field of a format (R87). -/
def fmtCode : Fmt → Nat
  | .b => 0
  | .h => 1
  | .w => 2
  | .d => 3

/-- The 7-bit df/m field: format and bit position; 1111xxx is reserved (R91). -/
def dfmOf (u : Nat) : Option (Fmt × Nat) :=
  if u < 64 then some (.d, u)
  else if u < 96 then some (.w, u - 64)
  else if u < 112 then some (.h, u - 96)
  else if u < 120 then some (.b, u - 112)
  else none

/-- The df/m field of a format and bit position (R91). -/
def dfmCode (df : Fmt) (m : Nat) : Nat :=
  match df with
  | .d => m
  | .w => 64 + m
  | .h => 96 + m
  | .b => 112 + m

/-- The 6-bit df/n field: format and element index; every other pattern is reserved or 111110 (R92). -/
def dfnOf (u : Nat) : Option (Fmt × Nat) :=
  if u < 16 then some (.b, u)
  else if 32 ≤ u ∧ u < 40 then some (.h, u - 32)
  else if 48 ≤ u ∧ u < 52 then some (.w, u - 48)
  else if 56 ≤ u ∧ u < 58 then some (.d, u - 56)
  else none

/-- The df/n field of a format and element index (R92). -/
def dfnCode (df : Fmt) (n : Nat) : Nat :=
  match df with
  | .b => n
  | .h => 32 + n
  | .w => 48 + n
  | .d => 56 + n

/-! ## The decoder, format by format -/

/-- An operation that has no byte form (R107). -/
def hwd (df : Fmt) (mk : FmtHwd → Instr) : Except Reject Instr :=
  match df with
  | .b => .error .reservedFormat
  | .h => .ok (mk .h)
  | .w => .ok (mk .w)
  | .d => .ok (mk .d)

/-- An operation that has no doubleword form (R107). -/
def bhw (df : Fmt) (mk : FmtBhw → Instr) : Except Reject Instr :=
  match df with
  | .b => .ok (mk .b)
  | .h => .ok (mk .h)
  | .w => .ok (mk .w)
  | .d => .error .reservedFormat

/-- Format 3R: the operation (bits 25:23) by minor opcode (R88, R99). -/
def decode3R (minor op : Nat) (df : Fmt) (wd ws wt : Reg) : Except Reject Instr :=
  match minor with
  | 13 =>
    match op with
    | 0 => .ok (Instr.sll df wd ws wt)
    | 1 => .ok (Instr.sra df wd ws wt)
    | 2 => .ok (Instr.srl df wd ws wt)
    | 3 => .ok (Instr.bclr df wd ws wt)
    | 4 => .ok (Instr.bset df wd ws wt)
    | 5 => .ok (Instr.bneg df wd ws wt)
    | 6 => .ok (Instr.binsl df wd ws wt)
    | 7 => .ok (Instr.binsr df wd ws wt)
    | _ => .error .reservedOperation
  | 14 =>
    match op with
    | 0 => .ok (Instr.addv df wd ws wt)
    | 1 => .ok (Instr.subv df wd ws wt)
    | 2 => .ok (Instr.maxS df wd ws wt)
    | 3 => .ok (Instr.maxU df wd ws wt)
    | 4 => .ok (Instr.minS df wd ws wt)
    | 5 => .ok (Instr.minU df wd ws wt)
    | 6 => .ok (Instr.maxA df wd ws wt)
    | 7 => .ok (Instr.minA df wd ws wt)
    | _ => .error .reservedOperation
  | 15 =>
    match op with
    | 0 => .ok (Instr.ceq df wd ws wt)
    | 2 => .ok (Instr.cltS df wd ws wt)
    | 3 => .ok (Instr.cltU df wd ws wt)
    | 4 => .ok (Instr.cleS df wd ws wt)
    | 5 => .ok (Instr.cleU df wd ws wt)
    | _ => .error .reservedOperation
  | 16 =>
    match op with
    | 0 => .ok (Instr.addA df wd ws wt)
    | 1 => .ok (Instr.addsA df wd ws wt)
    | 2 => .ok (Instr.addsS df wd ws wt)
    | 3 => .ok (Instr.addsU df wd ws wt)
    | 4 => .ok (Instr.aveS df wd ws wt)
    | 5 => .ok (Instr.aveU df wd ws wt)
    | 6 => .ok (Instr.averS df wd ws wt)
    | 7 => .ok (Instr.averU df wd ws wt)
    | _ => .error .reservedOperation
  | 17 =>
    match op with
    | 0 => .ok (Instr.subsS df wd ws wt)
    | 1 => .ok (Instr.subsU df wd ws wt)
    | 2 => .ok (Instr.subsusU df wd ws wt)
    | 3 => .ok (Instr.subsuuS df wd ws wt)
    | 4 => .ok (Instr.asubS df wd ws wt)
    | 5 => .ok (Instr.asubU df wd ws wt)
    | _ => .error .reservedOperation
  | 18 =>
    match op with
    | 0 => .ok (Instr.mulv df wd ws wt)
    | 1 => .ok (Instr.maddv df wd ws wt)
    | 2 => .ok (Instr.msubv df wd ws wt)
    | 4 => .ok (Instr.divS df wd ws wt)
    | 5 => .ok (Instr.divU df wd ws wt)
    | 6 => .ok (Instr.modS df wd ws wt)
    | 7 => .ok (Instr.modU df wd ws wt)
    | _ => .error .reservedOperation
  | 19 =>
    match op with
    | 0 => hwd df fun f => Instr.dotpS f wd ws wt
    | 1 => hwd df fun f => Instr.dotpU f wd ws wt
    | 2 => hwd df fun f => Instr.dpaddS f wd ws wt
    | 3 => hwd df fun f => Instr.dpaddU f wd ws wt
    | 4 => hwd df fun f => Instr.dpsubS f wd ws wt
    | 5 => hwd df fun f => Instr.dpsubU f wd ws wt
    | _ => .error .reservedOperation
  | 20 =>
    match op with
    | 0 => .ok (Instr.sld df wd ws wt)
    | 1 => .ok (Instr.splat df wd ws wt)
    | 2 => .ok (Instr.pckev df wd ws wt)
    | 3 => .ok (Instr.pckod df wd ws wt)
    | 4 => .ok (Instr.ilvl df wd ws wt)
    | 5 => .ok (Instr.ilvr df wd ws wt)
    | 6 => .ok (Instr.ilvev df wd ws wt)
    | 7 => .ok (Instr.ilvod df wd ws wt)
    | _ => .error .reservedOperation
  | 21 =>
    match op with
    | 0 => .ok (Instr.vshf df wd ws wt)
    | 1 => .ok (Instr.srar df wd ws wt)
    | 2 => .ok (Instr.srlr df wd ws wt)
    | 4 => hwd df fun f => Instr.haddS f wd ws wt
    | 5 => hwd df fun f => Instr.haddU f wd ws wt
    | 6 => hwd df fun f => Instr.hsubS f wd ws wt
    | 7 => hwd df fun f => Instr.hsubU f wd ws wt
    | _ => .error .reservedOperation
  | _ => .error .reservedMinor

/-- Formats I5 and I10: the operation (bits 25:23) by minor opcode (R89, R96, R97, R100). `i5` is bits
20:16 and `i10` bits 20:11, both unsigned as they stand in the word. -/
def decodeI5 (minor op : Nat) (df : Fmt) (i5 i10 : Nat) (wd ws : Reg) : Except Reject Instr :=
  match minor with
  | 6 =>
    match op with
    | 0 => .ok (Instr.addvi df wd ws i5)
    | 1 => .ok (Instr.subvi df wd ws i5)
    | 2 => .ok (Instr.maxiS df wd ws (signed 5 i5))
    | 3 => .ok (Instr.maxiU df wd ws i5)
    | 4 => .ok (Instr.miniS df wd ws (signed 5 i5))
    | 5 => .ok (Instr.miniU df wd ws i5)
    | _ => .error .reservedOperation
  | 7 =>
    match op with
    | 0 => .ok (Instr.ceqi df wd ws (signed 5 i5))
    | 2 => .ok (Instr.cltiS df wd ws (signed 5 i5))
    | 3 => .ok (Instr.cltiU df wd ws i5)
    | 4 => .ok (Instr.cleiS df wd ws (signed 5 i5))
    | 5 => .ok (Instr.cleiU df wd ws i5)
    | 6 => .ok (Instr.ldi df wd (signed 10 i10))
    | _ => .error .reservedOperation
  | _ => .error .reservedMinor

/-- Format BIT: the operation (bits 25:23) by minor opcode (R91, R101). -/
def decodeBit (minor op : Nat) (df : Fmt) (m : Nat) (wd ws : Reg) : Except Reject Instr :=
  match minor with
  | 9 =>
    match op with
    | 0 => .ok (Instr.slli df wd ws m)
    | 1 => .ok (Instr.srai df wd ws m)
    | 2 => .ok (Instr.srli df wd ws m)
    | 3 => .ok (Instr.bclri df wd ws m)
    | 4 => .ok (Instr.bseti df wd ws m)
    | 5 => .ok (Instr.bnegi df wd ws m)
    | 6 => .ok (Instr.binsli df wd ws m)
    | 7 => .ok (Instr.binsri df wd ws m)
    | _ => .error .reservedOperation
  | 10 =>
    match op with
    | 0 => .ok (Instr.satS df wd ws m)
    | 1 => .ok (Instr.satU df wd ws m)
    | 2 => .ok (Instr.srari df wd ws m)
    | 3 => .ok (Instr.srlri df wd ws m)
    | _ => .error .reservedOperation
  | _ => .error .reservedMinor

/-- Format I8: the operation (bits 25:24) by minor opcode (R90, R102); for `shf` those bits are the
format. -/
def decodeI8 (minor op : Nat) (i8 : Nat) (wd ws : Reg) : Except Reject Instr :=
  match minor with
  | 0 =>
    match op with
    | 0 => .ok (.andiB wd ws i8)
    | 1 => .ok (.oriB wd ws i8)
    | 2 => .ok (.noriB wd ws i8)
    | 3 => .ok (.xoriB wd ws i8)
    | _ => .error .reservedOperation
  | 1 =>
    match op with
    | 0 => .ok (.bmnziB wd ws i8)
    | 1 => .ok (.bmziB wd ws i8)
    | 2 => .ok (.bseliB wd ws i8)
    | _ => .error .reservedOperation
  | 2 =>
    match op with
    | 0 => .ok (Instr.shf .b wd ws i8)
    | 1 => .ok (Instr.shf .h wd ws i8)
    | 2 => .ok (Instr.shf .w wd ws i8)
    | _ => .error .reservedFormat
  | _ => .error .reservedMinor

/-- Format ELM with an element index: the operation (bits 25:22) (R92, R103). The field at bits 10:6 is
`wd`, or the general-purpose register `rd` for `copy_s` and `copy_u`; the field at bits 15:11 is `ws`, or
`rs` for `insert`. -/
def decodeElm (op : Nat) (df : Fmt) (n : Nat) (wd ws : Reg) : Except Reject Instr :=
  match op with
  | 0 => .ok (Instr.sldi df wd ws n)
  | 1 => .ok (Instr.splati df wd ws n)
  | 2 => .ok (Instr.copyS df wd ws n)
  | 3 => bhw df fun f => Instr.copyU f wd ws n
  | 4 => .ok (Instr.insert df wd ws n)
  | 5 => .ok (Instr.insve df wd ws n)
  | _ => .error .reservedOperation

/-- Format ELM with df/n = 111110: `move.v`, and the control-register moves outside the block (R92, R103). -/
def decodeMove (op : Nat) (wd ws : Reg) : Except Reject Instr :=
  match op with
  | 0 | 1 => .error .outsideBlock
  | 2 => .ok (.moveV wd ws)
  | _ => .error .reservedOperation

/-- Format VEC, operations 00000 to 00110 of bits 25:21 (R93, R104). -/
def decodeVec (op : Nat) (wd ws wt : Reg) : Except Reject Instr :=
  match op with
  | 0 => .ok (.andV wd ws wt)
  | 1 => .ok (.orV wd ws wt)
  | 2 => .ok (.norV wd ws wt)
  | 3 => .ok (.xorV wd ws wt)
  | 4 => .ok (.bmnzV wd ws wt)
  | 5 => .ok (.bmzV wd ws wt)
  | 6 => .ok (.bselV wd ws wt)
  | _ => .error .reservedOperation

/-- Format 2R: bits 20:18 under bits 25:21 = 11000 (R94, R104). -/
def decode2R (op : Nat) (df : Fmt) (wd ws : Reg) : Except Reject Instr :=
  match op with
  | 0 => .ok (Instr.fill df wd ws)
  | 1 => .ok (Instr.pcnt df wd ws)
  | 2 => .ok (Instr.nloc df wd ws)
  | 3 => .ok (Instr.nlzc df wd ws)
  | _ => .error .reservedOperation

/-- Format 3RF of minor opcode 011100: the Q-format operations; the floating-point compares are outside
the block (R95, R105). -/
def decode3RF (op : Nat) (f : FmtHw) (wd ws wt : Reg) : Except Reject Instr :=
  match op with
  | 4 => .ok (Instr.mulQ f wd ws wt)
  | 5 => .ok (Instr.maddQ f wd ws wt)
  | 6 => .ok (Instr.msubQ f wd ws wt)
  | 12 => .ok (Instr.mulrQ f wd ws wt)
  | 13 => .ok (Instr.maddrQ f wd ws wt)
  | 14 => .ok (Instr.msubrQ f wd ws wt)
  | 1 | 2 | 3 | 9 | 10 | 11 => .error .outsideBlock
  | _ => .error .reservedOperation

/-- The minor opcodes of the BIT format: the df/m field first, then the operation (R91). -/
def decodeBitWord (x : Nat) : Except Reject Instr :=
  match dfmOf (field x 22 16) with
  | none => .error .reservedFormat
  | some (df, m) => decodeBit (field x 5 0) (field x 25 23) df m (regField x 6) (regField x 11)

/-- The minor opcode of the ELM format: the df/n field first, then the operation (R92, R103). -/
def decodeElmWord (x : Nat) : Except Reject Instr :=
  if field x 21 16 = 62 then decodeMove (field x 25 22) (regField x 6) (regField x 11)
  else
    match dfnOf (field x 21 16) with
    | none => .error .reservedFormat
    | some (df, n) => decodeElm (field x 25 22) df n (regField x 6) (regField x 11)

/-- The minor opcode shared by the formats VEC, 2R and 2RF (R93, R94, R104). -/
def decodeVecWord (x : Nat) : Except Reject Instr :=
  if field x 25 21 = 24 then
    decode2R (field x 20 18) (fmtOf (field x 17 16)) (regField x 6) (regField x 11)
  else if field x 25 21 = 25 then .error .outsideBlock
  else decodeVec (field x 25 21) (regField x 6) (regField x 11) (regField x 16)

/-- The word of an MSA instruction, by its minor opcode (R86). -/
def decodeMinor (x : Nat) : Except Reject Instr :=
  match field x 5 0 with
  | 0 | 1 | 2 => decodeI8 (field x 5 0) (field x 25 24) (field x 23 16) (regField x 6) (regField x 11)
  | 6 | 7 =>
    decodeI5 (field x 5 0) (field x 25 23) (fmtOf (field x 22 21)) (field x 20 16) (field x 20 11)
      (regField x 6) (regField x 11)
  | 9 | 10 => decodeBitWord x
  | 13 | 14 | 15 | 16 | 17 | 18 | 19 | 20 | 21 =>
    decode3R (field x 5 0) (field x 25 23) (fmtOf (field x 22 21)) (regField x 6) (regField x 11)
      (regField x 16)
  | 25 => decodeElmWord x
  | 26 | 27 => .error .outsideBlock
  | 28 =>
    decode3RF (field x 25 22) (if field x 21 21 = 0 then .h else .w) (regField x 6) (regField x 11)
      (regField x 16)
  | 30 => decodeVecWord x
  | 32 | 33 | 34 | 35 | 36 | 37 | 38 | 39 => .error .outsideBlock
  | _ => .error .reservedMinor

/-- The decoder: the instruction a word spells, or why it spells none (R85, R106, R112). -/
def decode (w : Word32) : Except Reject Instr :=
  if field w.toNat 31 26 = 30 then decodeMinor w.toNat else .error .notMsa

/-! ## The encoder -/

/-- A word of the MSA major opcode: minor opcode, `wd` field, `ws` field, and bits 25:16 (R85, R98). -/
def wordMsa (minor : Nat) (wd ws : Fin 32) (top : Nat) : Word32 :=
  BitVec.ofNat 32 (30 * 2 ^ 26 + top * 2 ^ 16 + ws.val * 2 ^ 11 + wd.val * 2 ^ 6 + minor)

/-- Format 3R (R88). -/
def word3R (minor op : Nat) (df : Fmt) (wd ws wt : Fin 32) : Word32 :=
  wordMsa minor wd ws (op * 2 ^ 7 + fmtCode df * 2 ^ 5 + wt.val)

/-- Format I5 (R89). -/
def wordI5 (minor op : Nat) (df : Fmt) (wd ws : Fin 32) (i5 : Nat) : Word32 :=
  wordMsa minor wd ws (op * 2 ^ 7 + fmtCode df * 2 ^ 5 + i5)

/-- Format I10, the variant of I5 that `ldi` uses: bits 20:11 are the immediate (R89). -/
def wordI10 (df : Fmt) (wd : Fin 32) (i10 : Nat) : Word32 :=
  BitVec.ofNat 32 (30 * 2 ^ 26 + 6 * 2 ^ 23 + fmtCode df * 2 ^ 21 + i10 * 2 ^ 11 + wd.val * 2 ^ 6 + 7)

/-- Format BIT (R91). -/
def wordBit (minor op : Nat) (df : Fmt) (wd ws : Fin 32) (m : Nat) : Word32 :=
  wordMsa minor wd ws (op * 2 ^ 7 + dfmCode df m)

/-- Format I8 (R90). -/
def wordI8 (minor op : Nat) (wd ws : Fin 32) (i8 : Nat) : Word32 := wordMsa minor wd ws (op * 2 ^ 8 + i8)

/-- Format ELM with an element index (R92). -/
def wordElm (op : Nat) (df : Fmt) (wd ws : Fin 32) (n : Nat) : Word32 :=
  wordMsa 25 wd ws (op * 2 ^ 6 + dfnCode df n)

/-- Format ELM with df/n = 111110 (R92, R103). -/
def wordMove (op : Nat) (wd ws : Fin 32) : Word32 := wordMsa 25 wd ws (op * 2 ^ 6 + 62)

/-- Format VEC (R93). -/
def wordVec (op : Nat) (wd ws wt : Fin 32) : Word32 := wordMsa 30 wd ws (op * 2 ^ 5 + wt.val)

/-- Format 2R (R94). -/
def word2R (op : Nat) (df : Fmt) (wd ws : Fin 32) : Word32 :=
  wordMsa 30 wd ws (24 * 2 ^ 5 + op * 2 ^ 2 + fmtCode df)

/-- Format 3RF as the Q-format operations use it: bit 21 is 0 for h and 1 for w (R95). -/
def word3RF (op : Nat) (f : FmtHw) (wd ws wt : Fin 32) : Word32 :=
  wordMsa 28 wd ws (op * 2 ^ 6 + (match f with | .h => 0 | .w => 1) * 2 ^ 5 + wt.val)

/-- The instruction word of an instruction: the formats and operation codes of R85 to R105. It is the word
that spells the instruction exactly when the instruction is `encodable`. -/
def encode : Instr → Word32
  | .copySB rd ws n => wordElm 2 .b rd ws n
  | .copySH rd ws n => wordElm 2 .h rd ws n
  | .copySW rd ws n => wordElm 2 .w rd ws n
  | .copySD rd ws n => wordElm 2 .d rd ws n
  | .copyUB rd ws n => wordElm 3 .b rd ws n
  | .copyUH rd ws n => wordElm 3 .h rd ws n
  | .copyUW rd ws n => wordElm 3 .w rd ws n
  | .insertB wd rs n => wordElm 4 .b wd rs n
  | .insertH wd rs n => wordElm 4 .h wd rs n
  | .insertW wd rs n => wordElm 4 .w wd rs n
  | .insertD wd rs n => wordElm 4 .d wd rs n
  | .insveB wd ws n => wordElm 5 .b wd ws n
  | .insveH wd ws n => wordElm 5 .h wd ws n
  | .insveW wd ws n => wordElm 5 .w wd ws n
  | .insveD wd ws n => wordElm 5 .d wd ws n
  | .fillB wd rs => word2R 0 .b wd rs
  | .fillH wd rs => word2R 0 .h wd rs
  | .fillW wd rs => word2R 0 .w wd rs
  | .fillD wd rs => word2R 0 .d wd rs
  | .moveV wd ws => wordMove 2 wd ws
  | .addvB wd ws wt => word3R 14 0 .b wd ws wt
  | .addvH wd ws wt => word3R 14 0 .h wd ws wt
  | .addvW wd ws wt => word3R 14 0 .w wd ws wt
  | .addvD wd ws wt => word3R 14 0 .d wd ws wt
  | .addviB wd ws u5 => wordI5 6 0 .b wd ws u5
  | .addviH wd ws u5 => wordI5 6 0 .h wd ws u5
  | .addviW wd ws u5 => wordI5 6 0 .w wd ws u5
  | .addviD wd ws u5 => wordI5 6 0 .d wd ws u5
  | .subvB wd ws wt => word3R 14 1 .b wd ws wt
  | .subvH wd ws wt => word3R 14 1 .h wd ws wt
  | .subvW wd ws wt => word3R 14 1 .w wd ws wt
  | .subvD wd ws wt => word3R 14 1 .d wd ws wt
  | .subviB wd ws u5 => wordI5 6 1 .b wd ws u5
  | .subviH wd ws u5 => wordI5 6 1 .h wd ws u5
  | .subviW wd ws u5 => wordI5 6 1 .w wd ws u5
  | .subviD wd ws u5 => wordI5 6 1 .d wd ws u5
  | .addsSB wd ws wt => word3R 16 2 .b wd ws wt
  | .addsSH wd ws wt => word3R 16 2 .h wd ws wt
  | .addsSW wd ws wt => word3R 16 2 .w wd ws wt
  | .addsSD wd ws wt => word3R 16 2 .d wd ws wt
  | .addsUB wd ws wt => word3R 16 3 .b wd ws wt
  | .addsUH wd ws wt => word3R 16 3 .h wd ws wt
  | .addsUW wd ws wt => word3R 16 3 .w wd ws wt
  | .addsUD wd ws wt => word3R 16 3 .d wd ws wt
  | .subsSB wd ws wt => word3R 17 0 .b wd ws wt
  | .subsSH wd ws wt => word3R 17 0 .h wd ws wt
  | .subsSW wd ws wt => word3R 17 0 .w wd ws wt
  | .subsSD wd ws wt => word3R 17 0 .d wd ws wt
  | .subsUB wd ws wt => word3R 17 1 .b wd ws wt
  | .subsUH wd ws wt => word3R 17 1 .h wd ws wt
  | .subsUW wd ws wt => word3R 17 1 .w wd ws wt
  | .subsUD wd ws wt => word3R 17 1 .d wd ws wt
  | .subsusUB wd ws wt => word3R 17 2 .b wd ws wt
  | .subsusUH wd ws wt => word3R 17 2 .h wd ws wt
  | .subsusUW wd ws wt => word3R 17 2 .w wd ws wt
  | .subsusUD wd ws wt => word3R 17 2 .d wd ws wt
  | .subsuuSB wd ws wt => word3R 17 3 .b wd ws wt
  | .subsuuSH wd ws wt => word3R 17 3 .h wd ws wt
  | .subsuuSW wd ws wt => word3R 17 3 .w wd ws wt
  | .subsuuSD wd ws wt => word3R 17 3 .d wd ws wt
  | .asubSB wd ws wt => word3R 17 4 .b wd ws wt
  | .asubSH wd ws wt => word3R 17 4 .h wd ws wt
  | .asubSW wd ws wt => word3R 17 4 .w wd ws wt
  | .asubSD wd ws wt => word3R 17 4 .d wd ws wt
  | .asubUB wd ws wt => word3R 17 5 .b wd ws wt
  | .asubUH wd ws wt => word3R 17 5 .h wd ws wt
  | .asubUW wd ws wt => word3R 17 5 .w wd ws wt
  | .asubUD wd ws wt => word3R 17 5 .d wd ws wt
  | .addAB wd ws wt => word3R 16 0 .b wd ws wt
  | .addAH wd ws wt => word3R 16 0 .h wd ws wt
  | .addAW wd ws wt => word3R 16 0 .w wd ws wt
  | .addAD wd ws wt => word3R 16 0 .d wd ws wt
  | .addsAB wd ws wt => word3R 16 1 .b wd ws wt
  | .addsAH wd ws wt => word3R 16 1 .h wd ws wt
  | .addsAW wd ws wt => word3R 16 1 .w wd ws wt
  | .addsAD wd ws wt => word3R 16 1 .d wd ws wt
  | .aveSB wd ws wt => word3R 16 4 .b wd ws wt
  | .aveSH wd ws wt => word3R 16 4 .h wd ws wt
  | .aveSW wd ws wt => word3R 16 4 .w wd ws wt
  | .aveSD wd ws wt => word3R 16 4 .d wd ws wt
  | .aveUB wd ws wt => word3R 16 5 .b wd ws wt
  | .aveUH wd ws wt => word3R 16 5 .h wd ws wt
  | .aveUW wd ws wt => word3R 16 5 .w wd ws wt
  | .aveUD wd ws wt => word3R 16 5 .d wd ws wt
  | .averSB wd ws wt => word3R 16 6 .b wd ws wt
  | .averSH wd ws wt => word3R 16 6 .h wd ws wt
  | .averSW wd ws wt => word3R 16 6 .w wd ws wt
  | .averSD wd ws wt => word3R 16 6 .d wd ws wt
  | .averUB wd ws wt => word3R 16 7 .b wd ws wt
  | .averUH wd ws wt => word3R 16 7 .h wd ws wt
  | .averUW wd ws wt => word3R 16 7 .w wd ws wt
  | .averUD wd ws wt => word3R 16 7 .d wd ws wt
  | .maxAB wd ws wt => word3R 14 6 .b wd ws wt
  | .maxAH wd ws wt => word3R 14 6 .h wd ws wt
  | .maxAW wd ws wt => word3R 14 6 .w wd ws wt
  | .maxAD wd ws wt => word3R 14 6 .d wd ws wt
  | .minAB wd ws wt => word3R 14 7 .b wd ws wt
  | .minAH wd ws wt => word3R 14 7 .h wd ws wt
  | .minAW wd ws wt => word3R 14 7 .w wd ws wt
  | .minAD wd ws wt => word3R 14 7 .d wd ws wt
  | .maxSB wd ws wt => word3R 14 2 .b wd ws wt
  | .maxSH wd ws wt => word3R 14 2 .h wd ws wt
  | .maxSW wd ws wt => word3R 14 2 .w wd ws wt
  | .maxSD wd ws wt => word3R 14 2 .d wd ws wt
  | .maxUB wd ws wt => word3R 14 3 .b wd ws wt
  | .maxUH wd ws wt => word3R 14 3 .h wd ws wt
  | .maxUW wd ws wt => word3R 14 3 .w wd ws wt
  | .maxUD wd ws wt => word3R 14 3 .d wd ws wt
  | .minSB wd ws wt => word3R 14 4 .b wd ws wt
  | .minSH wd ws wt => word3R 14 4 .h wd ws wt
  | .minSW wd ws wt => word3R 14 4 .w wd ws wt
  | .minSD wd ws wt => word3R 14 4 .d wd ws wt
  | .minUB wd ws wt => word3R 14 5 .b wd ws wt
  | .minUH wd ws wt => word3R 14 5 .h wd ws wt
  | .minUW wd ws wt => word3R 14 5 .w wd ws wt
  | .minUD wd ws wt => word3R 14 5 .d wd ws wt
  | .maxiSB wd ws s5 => wordI5 6 2 .b wd ws (unsigned 5 s5)
  | .maxiSH wd ws s5 => wordI5 6 2 .h wd ws (unsigned 5 s5)
  | .maxiSW wd ws s5 => wordI5 6 2 .w wd ws (unsigned 5 s5)
  | .maxiSD wd ws s5 => wordI5 6 2 .d wd ws (unsigned 5 s5)
  | .maxiUB wd ws u5 => wordI5 6 3 .b wd ws u5
  | .maxiUH wd ws u5 => wordI5 6 3 .h wd ws u5
  | .maxiUW wd ws u5 => wordI5 6 3 .w wd ws u5
  | .maxiUD wd ws u5 => wordI5 6 3 .d wd ws u5
  | .miniSB wd ws s5 => wordI5 6 4 .b wd ws (unsigned 5 s5)
  | .miniSH wd ws s5 => wordI5 6 4 .h wd ws (unsigned 5 s5)
  | .miniSW wd ws s5 => wordI5 6 4 .w wd ws (unsigned 5 s5)
  | .miniSD wd ws s5 => wordI5 6 4 .d wd ws (unsigned 5 s5)
  | .miniUB wd ws u5 => wordI5 6 5 .b wd ws u5
  | .miniUH wd ws u5 => wordI5 6 5 .h wd ws u5
  | .miniUW wd ws u5 => wordI5 6 5 .w wd ws u5
  | .miniUD wd ws u5 => wordI5 6 5 .d wd ws u5
  | .ceqB wd ws wt => word3R 15 0 .b wd ws wt
  | .ceqH wd ws wt => word3R 15 0 .h wd ws wt
  | .ceqW wd ws wt => word3R 15 0 .w wd ws wt
  | .ceqD wd ws wt => word3R 15 0 .d wd ws wt
  | .ceqiB wd ws s5 => wordI5 7 0 .b wd ws (unsigned 5 s5)
  | .ceqiH wd ws s5 => wordI5 7 0 .h wd ws (unsigned 5 s5)
  | .ceqiW wd ws s5 => wordI5 7 0 .w wd ws (unsigned 5 s5)
  | .ceqiD wd ws s5 => wordI5 7 0 .d wd ws (unsigned 5 s5)
  | .cltSB wd ws wt => word3R 15 2 .b wd ws wt
  | .cltSH wd ws wt => word3R 15 2 .h wd ws wt
  | .cltSW wd ws wt => word3R 15 2 .w wd ws wt
  | .cltSD wd ws wt => word3R 15 2 .d wd ws wt
  | .cltUB wd ws wt => word3R 15 3 .b wd ws wt
  | .cltUH wd ws wt => word3R 15 3 .h wd ws wt
  | .cltUW wd ws wt => word3R 15 3 .w wd ws wt
  | .cltUD wd ws wt => word3R 15 3 .d wd ws wt
  | .cltiSB wd ws s5 => wordI5 7 2 .b wd ws (unsigned 5 s5)
  | .cltiSH wd ws s5 => wordI5 7 2 .h wd ws (unsigned 5 s5)
  | .cltiSW wd ws s5 => wordI5 7 2 .w wd ws (unsigned 5 s5)
  | .cltiSD wd ws s5 => wordI5 7 2 .d wd ws (unsigned 5 s5)
  | .cltiUB wd ws u5 => wordI5 7 3 .b wd ws u5
  | .cltiUH wd ws u5 => wordI5 7 3 .h wd ws u5
  | .cltiUW wd ws u5 => wordI5 7 3 .w wd ws u5
  | .cltiUD wd ws u5 => wordI5 7 3 .d wd ws u5
  | .cleSB wd ws wt => word3R 15 4 .b wd ws wt
  | .cleSH wd ws wt => word3R 15 4 .h wd ws wt
  | .cleSW wd ws wt => word3R 15 4 .w wd ws wt
  | .cleSD wd ws wt => word3R 15 4 .d wd ws wt
  | .cleUB wd ws wt => word3R 15 5 .b wd ws wt
  | .cleUH wd ws wt => word3R 15 5 .h wd ws wt
  | .cleUW wd ws wt => word3R 15 5 .w wd ws wt
  | .cleUD wd ws wt => word3R 15 5 .d wd ws wt
  | .cleiSB wd ws s5 => wordI5 7 4 .b wd ws (unsigned 5 s5)
  | .cleiSH wd ws s5 => wordI5 7 4 .h wd ws (unsigned 5 s5)
  | .cleiSW wd ws s5 => wordI5 7 4 .w wd ws (unsigned 5 s5)
  | .cleiSD wd ws s5 => wordI5 7 4 .d wd ws (unsigned 5 s5)
  | .cleiUB wd ws u5 => wordI5 7 5 .b wd ws u5
  | .cleiUH wd ws u5 => wordI5 7 5 .h wd ws u5
  | .cleiUW wd ws u5 => wordI5 7 5 .w wd ws u5
  | .cleiUD wd ws u5 => wordI5 7 5 .d wd ws u5
  | .haddSH wd ws wt => word3R 21 4 .h wd ws wt
  | .haddSW wd ws wt => word3R 21 4 .w wd ws wt
  | .haddSD wd ws wt => word3R 21 4 .d wd ws wt
  | .haddUH wd ws wt => word3R 21 5 .h wd ws wt
  | .haddUW wd ws wt => word3R 21 5 .w wd ws wt
  | .haddUD wd ws wt => word3R 21 5 .d wd ws wt
  | .hsubSH wd ws wt => word3R 21 6 .h wd ws wt
  | .hsubSW wd ws wt => word3R 21 6 .w wd ws wt
  | .hsubSD wd ws wt => word3R 21 6 .d wd ws wt
  | .hsubUH wd ws wt => word3R 21 7 .h wd ws wt
  | .hsubUW wd ws wt => word3R 21 7 .w wd ws wt
  | .hsubUD wd ws wt => word3R 21 7 .d wd ws wt
  | .dotpSH wd ws wt => word3R 19 0 .h wd ws wt
  | .dotpSW wd ws wt => word3R 19 0 .w wd ws wt
  | .dotpSD wd ws wt => word3R 19 0 .d wd ws wt
  | .dotpUH wd ws wt => word3R 19 1 .h wd ws wt
  | .dotpUW wd ws wt => word3R 19 1 .w wd ws wt
  | .dotpUD wd ws wt => word3R 19 1 .d wd ws wt
  | .dpaddSH wd ws wt => word3R 19 2 .h wd ws wt
  | .dpaddSW wd ws wt => word3R 19 2 .w wd ws wt
  | .dpaddSD wd ws wt => word3R 19 2 .d wd ws wt
  | .dpaddUH wd ws wt => word3R 19 3 .h wd ws wt
  | .dpaddUW wd ws wt => word3R 19 3 .w wd ws wt
  | .dpaddUD wd ws wt => word3R 19 3 .d wd ws wt
  | .dpsubSH wd ws wt => word3R 19 4 .h wd ws wt
  | .dpsubSW wd ws wt => word3R 19 4 .w wd ws wt
  | .dpsubSD wd ws wt => word3R 19 4 .d wd ws wt
  | .dpsubUH wd ws wt => word3R 19 5 .h wd ws wt
  | .dpsubUW wd ws wt => word3R 19 5 .w wd ws wt
  | .dpsubUD wd ws wt => word3R 19 5 .d wd ws wt
  | .mulvB wd ws wt => word3R 18 0 .b wd ws wt
  | .mulvH wd ws wt => word3R 18 0 .h wd ws wt
  | .mulvW wd ws wt => word3R 18 0 .w wd ws wt
  | .mulvD wd ws wt => word3R 18 0 .d wd ws wt
  | .maddvB wd ws wt => word3R 18 1 .b wd ws wt
  | .maddvH wd ws wt => word3R 18 1 .h wd ws wt
  | .maddvW wd ws wt => word3R 18 1 .w wd ws wt
  | .maddvD wd ws wt => word3R 18 1 .d wd ws wt
  | .msubvB wd ws wt => word3R 18 2 .b wd ws wt
  | .msubvH wd ws wt => word3R 18 2 .h wd ws wt
  | .msubvW wd ws wt => word3R 18 2 .w wd ws wt
  | .msubvD wd ws wt => word3R 18 2 .d wd ws wt
  | .divSB wd ws wt => word3R 18 4 .b wd ws wt
  | .divSH wd ws wt => word3R 18 4 .h wd ws wt
  | .divSW wd ws wt => word3R 18 4 .w wd ws wt
  | .divSD wd ws wt => word3R 18 4 .d wd ws wt
  | .divUB wd ws wt => word3R 18 5 .b wd ws wt
  | .divUH wd ws wt => word3R 18 5 .h wd ws wt
  | .divUW wd ws wt => word3R 18 5 .w wd ws wt
  | .divUD wd ws wt => word3R 18 5 .d wd ws wt
  | .modSB wd ws wt => word3R 18 6 .b wd ws wt
  | .modSH wd ws wt => word3R 18 6 .h wd ws wt
  | .modSW wd ws wt => word3R 18 6 .w wd ws wt
  | .modSD wd ws wt => word3R 18 6 .d wd ws wt
  | .modUB wd ws wt => word3R 18 7 .b wd ws wt
  | .modUH wd ws wt => word3R 18 7 .h wd ws wt
  | .modUW wd ws wt => word3R 18 7 .w wd ws wt
  | .modUD wd ws wt => word3R 18 7 .d wd ws wt
  | .mulQH wd ws wt => word3RF 4 .h wd ws wt
  | .mulQW wd ws wt => word3RF 4 .w wd ws wt
  | .mulrQH wd ws wt => word3RF 12 .h wd ws wt
  | .mulrQW wd ws wt => word3RF 12 .w wd ws wt
  | .maddQH wd ws wt => word3RF 5 .h wd ws wt
  | .maddQW wd ws wt => word3RF 5 .w wd ws wt
  | .maddrQH wd ws wt => word3RF 13 .h wd ws wt
  | .maddrQW wd ws wt => word3RF 13 .w wd ws wt
  | .msubQH wd ws wt => word3RF 6 .h wd ws wt
  | .msubQW wd ws wt => word3RF 6 .w wd ws wt
  | .msubrQH wd ws wt => word3RF 14 .h wd ws wt
  | .msubrQW wd ws wt => word3RF 14 .w wd ws wt
  | .bclrB wd ws wt => word3R 13 3 .b wd ws wt
  | .bclrH wd ws wt => word3R 13 3 .h wd ws wt
  | .bclrW wd ws wt => word3R 13 3 .w wd ws wt
  | .bclrD wd ws wt => word3R 13 3 .d wd ws wt
  | .bclriB wd ws m => wordBit 9 3 .b wd ws m
  | .bclriH wd ws m => wordBit 9 3 .h wd ws m
  | .bclriW wd ws m => wordBit 9 3 .w wd ws m
  | .bclriD wd ws m => wordBit 9 3 .d wd ws m
  | .bsetB wd ws wt => word3R 13 4 .b wd ws wt
  | .bsetH wd ws wt => word3R 13 4 .h wd ws wt
  | .bsetW wd ws wt => word3R 13 4 .w wd ws wt
  | .bsetD wd ws wt => word3R 13 4 .d wd ws wt
  | .bsetiB wd ws m => wordBit 9 4 .b wd ws m
  | .bsetiH wd ws m => wordBit 9 4 .h wd ws m
  | .bsetiW wd ws m => wordBit 9 4 .w wd ws m
  | .bsetiD wd ws m => wordBit 9 4 .d wd ws m
  | .bnegB wd ws wt => word3R 13 5 .b wd ws wt
  | .bnegH wd ws wt => word3R 13 5 .h wd ws wt
  | .bnegW wd ws wt => word3R 13 5 .w wd ws wt
  | .bnegD wd ws wt => word3R 13 5 .d wd ws wt
  | .bnegiB wd ws m => wordBit 9 5 .b wd ws m
  | .bnegiH wd ws m => wordBit 9 5 .h wd ws m
  | .bnegiW wd ws m => wordBit 9 5 .w wd ws m
  | .bnegiD wd ws m => wordBit 9 5 .d wd ws m
  | .binslB wd ws wt => word3R 13 6 .b wd ws wt
  | .binslH wd ws wt => word3R 13 6 .h wd ws wt
  | .binslW wd ws wt => word3R 13 6 .w wd ws wt
  | .binslD wd ws wt => word3R 13 6 .d wd ws wt
  | .binsliB wd ws m => wordBit 9 6 .b wd ws m
  | .binsliH wd ws m => wordBit 9 6 .h wd ws m
  | .binsliW wd ws m => wordBit 9 6 .w wd ws m
  | .binsliD wd ws m => wordBit 9 6 .d wd ws m
  | .binsrB wd ws wt => word3R 13 7 .b wd ws wt
  | .binsrH wd ws wt => word3R 13 7 .h wd ws wt
  | .binsrW wd ws wt => word3R 13 7 .w wd ws wt
  | .binsrD wd ws wt => word3R 13 7 .d wd ws wt
  | .binsriB wd ws m => wordBit 9 7 .b wd ws m
  | .binsriH wd ws m => wordBit 9 7 .h wd ws m
  | .binsriW wd ws m => wordBit 9 7 .w wd ws m
  | .binsriD wd ws m => wordBit 9 7 .d wd ws m
  | .satSB wd ws m => wordBit 10 0 .b wd ws m
  | .satSH wd ws m => wordBit 10 0 .h wd ws m
  | .satSW wd ws m => wordBit 10 0 .w wd ws m
  | .satSD wd ws m => wordBit 10 0 .d wd ws m
  | .satUB wd ws m => wordBit 10 1 .b wd ws m
  | .satUH wd ws m => wordBit 10 1 .h wd ws m
  | .satUW wd ws m => wordBit 10 1 .w wd ws m
  | .satUD wd ws m => wordBit 10 1 .d wd ws m
  | .pcntB wd ws => word2R 1 .b wd ws
  | .pcntH wd ws => word2R 1 .h wd ws
  | .pcntW wd ws => word2R 1 .w wd ws
  | .pcntD wd ws => word2R 1 .d wd ws
  | .nlocB wd ws => word2R 2 .b wd ws
  | .nlocH wd ws => word2R 2 .h wd ws
  | .nlocW wd ws => word2R 2 .w wd ws
  | .nlocD wd ws => word2R 2 .d wd ws
  | .nlzcB wd ws => word2R 3 .b wd ws
  | .nlzcH wd ws => word2R 3 .h wd ws
  | .nlzcW wd ws => word2R 3 .w wd ws
  | .nlzcD wd ws => word2R 3 .d wd ws
  | .andV wd ws wt => wordVec 0 wd ws wt
  | .orV wd ws wt => wordVec 1 wd ws wt
  | .norV wd ws wt => wordVec 2 wd ws wt
  | .xorV wd ws wt => wordVec 3 wd ws wt
  | .andiB wd ws i8 => wordI8 0 0 wd ws i8
  | .oriB wd ws i8 => wordI8 0 1 wd ws i8
  | .noriB wd ws i8 => wordI8 0 2 wd ws i8
  | .xoriB wd ws i8 => wordI8 0 3 wd ws i8
  | .bmnzV wd ws wt => wordVec 4 wd ws wt
  | .bmzV wd ws wt => wordVec 5 wd ws wt
  | .bselV wd ws wt => wordVec 6 wd ws wt
  | .bmnziB wd ws i8 => wordI8 1 0 wd ws i8
  | .bmziB wd ws i8 => wordI8 1 1 wd ws i8
  | .bseliB wd ws i8 => wordI8 1 2 wd ws i8
  | .sllB wd ws wt => word3R 13 0 .b wd ws wt
  | .sllH wd ws wt => word3R 13 0 .h wd ws wt
  | .sllW wd ws wt => word3R 13 0 .w wd ws wt
  | .sllD wd ws wt => word3R 13 0 .d wd ws wt
  | .slliB wd ws m => wordBit 9 0 .b wd ws m
  | .slliH wd ws m => wordBit 9 0 .h wd ws m
  | .slliW wd ws m => wordBit 9 0 .w wd ws m
  | .slliD wd ws m => wordBit 9 0 .d wd ws m
  | .sraB wd ws wt => word3R 13 1 .b wd ws wt
  | .sraH wd ws wt => word3R 13 1 .h wd ws wt
  | .sraW wd ws wt => word3R 13 1 .w wd ws wt
  | .sraD wd ws wt => word3R 13 1 .d wd ws wt
  | .sraiB wd ws m => wordBit 9 1 .b wd ws m
  | .sraiH wd ws m => wordBit 9 1 .h wd ws m
  | .sraiW wd ws m => wordBit 9 1 .w wd ws m
  | .sraiD wd ws m => wordBit 9 1 .d wd ws m
  | .srlB wd ws wt => word3R 13 2 .b wd ws wt
  | .srlH wd ws wt => word3R 13 2 .h wd ws wt
  | .srlW wd ws wt => word3R 13 2 .w wd ws wt
  | .srlD wd ws wt => word3R 13 2 .d wd ws wt
  | .srliB wd ws m => wordBit 9 2 .b wd ws m
  | .srliH wd ws m => wordBit 9 2 .h wd ws m
  | .srliW wd ws m => wordBit 9 2 .w wd ws m
  | .srliD wd ws m => wordBit 9 2 .d wd ws m
  | .srarB wd ws wt => word3R 21 1 .b wd ws wt
  | .srarH wd ws wt => word3R 21 1 .h wd ws wt
  | .srarW wd ws wt => word3R 21 1 .w wd ws wt
  | .srarD wd ws wt => word3R 21 1 .d wd ws wt
  | .srariB wd ws m => wordBit 10 2 .b wd ws m
  | .srariH wd ws m => wordBit 10 2 .h wd ws m
  | .srariW wd ws m => wordBit 10 2 .w wd ws m
  | .srariD wd ws m => wordBit 10 2 .d wd ws m
  | .srlrB wd ws wt => word3R 21 2 .b wd ws wt
  | .srlrH wd ws wt => word3R 21 2 .h wd ws wt
  | .srlrW wd ws wt => word3R 21 2 .w wd ws wt
  | .srlrD wd ws wt => word3R 21 2 .d wd ws wt
  | .srlriB wd ws m => wordBit 10 3 .b wd ws m
  | .srlriH wd ws m => wordBit 10 3 .h wd ws m
  | .srlriW wd ws m => wordBit 10 3 .w wd ws m
  | .srlriD wd ws m => wordBit 10 3 .d wd ws m
  | .ilvevB wd ws wt => word3R 20 6 .b wd ws wt
  | .ilvevH wd ws wt => word3R 20 6 .h wd ws wt
  | .ilvevW wd ws wt => word3R 20 6 .w wd ws wt
  | .ilvevD wd ws wt => word3R 20 6 .d wd ws wt
  | .ilvodB wd ws wt => word3R 20 7 .b wd ws wt
  | .ilvodH wd ws wt => word3R 20 7 .h wd ws wt
  | .ilvodW wd ws wt => word3R 20 7 .w wd ws wt
  | .ilvodD wd ws wt => word3R 20 7 .d wd ws wt
  | .ilvlB wd ws wt => word3R 20 4 .b wd ws wt
  | .ilvlH wd ws wt => word3R 20 4 .h wd ws wt
  | .ilvlW wd ws wt => word3R 20 4 .w wd ws wt
  | .ilvlD wd ws wt => word3R 20 4 .d wd ws wt
  | .ilvrB wd ws wt => word3R 20 5 .b wd ws wt
  | .ilvrH wd ws wt => word3R 20 5 .h wd ws wt
  | .ilvrW wd ws wt => word3R 20 5 .w wd ws wt
  | .ilvrD wd ws wt => word3R 20 5 .d wd ws wt
  | .pckevB wd ws wt => word3R 20 2 .b wd ws wt
  | .pckevH wd ws wt => word3R 20 2 .h wd ws wt
  | .pckevW wd ws wt => word3R 20 2 .w wd ws wt
  | .pckevD wd ws wt => word3R 20 2 .d wd ws wt
  | .pckodB wd ws wt => word3R 20 3 .b wd ws wt
  | .pckodH wd ws wt => word3R 20 3 .h wd ws wt
  | .pckodW wd ws wt => word3R 20 3 .w wd ws wt
  | .pckodD wd ws wt => word3R 20 3 .d wd ws wt
  | .vshfB wd ws wt => word3R 21 0 .b wd ws wt
  | .vshfH wd ws wt => word3R 21 0 .h wd ws wt
  | .vshfW wd ws wt => word3R 21 0 .w wd ws wt
  | .vshfD wd ws wt => word3R 21 0 .d wd ws wt
  | .shfB wd ws i8 => wordI8 2 0 wd ws i8
  | .shfH wd ws i8 => wordI8 2 1 wd ws i8
  | .shfW wd ws i8 => wordI8 2 2 wd ws i8
  | .sldB wd ws rt => word3R 20 0 .b wd ws rt
  | .sldH wd ws rt => word3R 20 0 .h wd ws rt
  | .sldW wd ws rt => word3R 20 0 .w wd ws rt
  | .sldD wd ws rt => word3R 20 0 .d wd ws rt
  | .sldiB wd ws n => wordElm 0 .b wd ws n
  | .sldiH wd ws n => wordElm 0 .h wd ws n
  | .sldiW wd ws n => wordElm 0 .w wd ws n
  | .sldiD wd ws n => wordElm 0 .d wd ws n
  | .splatB wd ws rt => word3R 20 1 .b wd ws rt
  | .splatH wd ws rt => word3R 20 1 .h wd ws rt
  | .splatW wd ws rt => word3R 20 1 .w wd ws rt
  | .splatD wd ws rt => word3R 20 1 .d wd ws rt
  | .splatiB wd ws n => wordElm 1 .b wd ws n
  | .splatiH wd ws n => wordElm 1 .h wd ws n
  | .splatiW wd ws n => wordElm 1 .w wd ws n
  | .splatiD wd ws n => wordElm 1 .d wd ws n
  | .ldiB wd s10 => wordI10 .b wd (unsigned 10 s10)
  | .ldiH wd s10 => wordI10 .h wd (unsigned 10 s10)
  | .ldiW wd s10 => wordI10 .w wd (unsigned 10 s10)
  | .ldiD wd s10 => wordI10 .d wd (unsigned 10 s10)

/-! ## The opcode table's numbering of a word -/

/-- The word whose low `nbits` bits are those of `w` and whose other bits are 0. An instruction is one
32-bit unit, so the table's bit numbers are the word's own (R85; log 14). -/
def tableWord (nbits w : Nat) : Word32 := BitVec.ofNat 32 (w % 2 ^ nbits)

/-- The instruction the decoder reads from an instruction whose bits are `w`. -/
def decodeTableWord (nbits w : Nat) : Option Instr :=
  match decode (tableWord nbits w) with
  | .ok i => some i
  | .error _ => none

end

end Sys2Proof
end

