-- ==== Sys2Proof/Config.lean ====
section
/-! DEFINITION. The parameters of the block and the values its environment fixes (00_scope R10 to R12,
10_state R46, R48; the table of parameters in 92_eei_decisions).

`Params` is what an operation can depend on beside registers and ports. It stands in `State`, no step
writes it, and a statement about every state holds for every value of it. The constants below without a
body are the values the spec leaves unknown at reset: nothing can prove what they are. -/

namespace Sys2Proof

/-- `GPRLEN`: the width of the scalar ports (00_scope R10). -/
inductive GprLen | w32 | w64
deriving DecidableEq, Repr

/-- `GPRLEN` as a number of bits. -/
def GprLen.bits : GprLen → Nat
  | .w32 => 32
  | .w64 => 64

/-- `MAG_TIE`: which operand `max_a` and `min_a` return when the magnitudes are equal (00_scope R12). -/
inductive MagTie | first | second
deriving DecidableEq, Repr

/-- The parameters a run is under. -/
structure Params where
  /-- `GPRLEN` (00_scope R10). -/
  gprLen : GprLen
  /-- `TRACK_ENABLE` (00_scope R11, 10_state R41, R48). -/
  trackEnable : Bool
  /-- `MAG_TIE` (00_scope R12). -/
  magTie : MagTie
deriving DecidableEq, Repr

namespace Config

/-- The wide registers after reset: unknown, each drawn freely (10_state R46; log 3). -/
opaque resetWide : Fin 32 → Vec

/-- `TRACK_ENABLE`: a constant of the environment (10_state R48; log 5). -/
opaque trackEnable : Bool

/-- `MSA_REV`: the revision the encodings follow; no rule of the spec reads it (00_scope R2, 92 D1;
log 21). -/
opaque msaRev : Nat

/-- The parameters at reset. `GPRLEN = 64`: "none; a model fixes it" (92; DESIGN CHOICE, log 6).
`MAG_TIE = First`: the default (00_scope R12; log 7). -/
def params : Params := { gprLen := .w64, trackEnable := trackEnable, magTie := .first }

end Config

end Sys2Proof
end

