-- ==== Sys2Proof/Machine/State.lean ====
section
/-! DEFINITION. The state of the block and of what stands around it (10_state R30 to R49), the reasons a step
can stop, and reset. INVENTORY.md lists every field with its rule. -/

namespace Sys2Proof

namespace Machine

/-- The block's one fault. -/
inductive Fault
  /-- ReservedInstruction, the document's InvalidOperand, with the format and the unreduced index that
  failed (60_exceptions R370, R373). Raised by `checkIndex` (40 R130), so by `sldi`, `splati`, `copy_s`,
  `copy_u`, `insert` and `insve` with an index out of range (60 R371), as the outcome of the operation
  (40 R145). `step` hands it over and goes on (`handOver`), so no step ends in it. Safe: the spec's own
  outcome; the container's delivery of it is not modelled (60 R379). -/
  | reservedInstruction (df : Fmt) (index : Nat)
deriving DecidableEq, Repr

/-- Why the model gives an input no meaning. -/
inductive Refusal
  /-- An instruction without a meaning in the model. Raised by no arm of `exec` now. Safe: the model stops. -/
  | notModelled (mnemonic : String)
  /-- The issued word spells no instruction of the block; the CPU's decoder never hands it over
  (30_encoding R106, R107). Raised by `issueWord`. Safe: the model stops. -/
  | reservedWord (why : Reject)
  /-- `copy_s.d`, `copy_u.w`, `insert.d` or `fill.d` with `GPRLEN = 32`: reserved (30_encoding R107).
  Raised by the meanings of those four. Safe: the model stops. -/
  | reservedAtGprLen32
  /-- A descriptor whose immediate is outside the range its operation takes (30_encoding R83). Raised by
  the meanings with an immediate. Safe: the model stops; no word spells such a descriptor. -/
  | immediateOutOfRange
  /-- The dispatcher issues nothing more: the run has ended (70_reset R399). Raised by `step`. Safe: the
  model stops. -/
  | noInput
deriving DecidableEq, Repr

/-- What the world outside the block does next (70_reset R399; log 1). -/
inductive Event
  /-- The dispatcher issues an instruction word, with the value it puts on `gpr_in` (30_encoding R98). -/
  | word (w : Word32) (gprIn : Scalar)
  /-- The dispatcher issues a descriptor, with the value on `gpr_in` (30_encoding R80). -/
  | descriptor (i : Instr) (gprIn : Scalar)
  /-- The write-back collaborator clears the bits of `MODIFY` that `mask` sets (10_state R39; log 18). -/
  | clearModify (mask : BitVec 32)
  /-- Another context sharing `MODIFY` ORs bits into it (60_exceptions R388; log 17). -/
  | contextOr (mask : BitVec 32)
deriving DecidableEq, Repr

/-- The scalar result port: the value last driven and the general-purpose register it is for
(10_state R37; log 9). -/
structure ScalarOut where
  rd : Gpr
  value : Scalar
deriving DecidableEq, Repr

/-- The machine state. -/
structure State where
  /-- The wide registers `w0` to `w31` (10_state R30). -/
  w : Vector Vec 32
  /-- The modify bitmap `MODIFY` (10_state R39). -/
  modify : BitVec 32
  /-- The scalar operand port `gpr_in` (10_state R36). -/
  gprIn : Scalar
  /-- The scalar result port `gpr_out` (10_state R37). -/
  gprOut : ScalarOut
  /-- The parameters, `TRACK_ENABLE` among them; never written (00_scope R10 to R12). -/
  params : Params
  /-- What the outside world does next, oldest first (70_reset R399). -/
  input : List Event
  /-- The faults handed to the container so far, oldest first (60_exceptions R375, 70_reset R399; log 10).
  No operation reads it. -/
  faults : List Fault
deriving DecidableEq, Repr

/-- The machine right after reset (10_state R46 to R48, 70_reset R390): registers unknown, `MODIFY` zero,
nothing issued and no fault handed over yet. The port values are logs 8 and 9. -/
def State.reset : State where
  w := Vector.ofFn Config.resetWide
  modify := 0
  gprIn := 0
  gprOut := { rd := 0, value := 0 }
  params := Config.params
  input := []
  faults := []

/-- The outcome of an operation (40 R145). -/
abbrev Result := Host.Outcome State Fault Refusal

end Machine

end Sys2Proof
end

