-- ==== Sys2Proof/Machine/Arith.lean ====
section
/-! DEFINITION. The integer notation of 00_scope R14 to R16: extension, truncation, clamping and shifting over
exact integers, and the sub-lane and bit readings of a lane's pattern. -/

namespace Sys2Proof.Machine

/-- `sext_N(u)`: the pattern read as two's complement (00_scope R15). -/
def sext {n : Nat} (x : BitVec n) : Int := x.toInt

/-- `zext_N(u)`: the pattern read unsigned (00_scope R15). -/
def zext {n : Nat} (x : BitVec n) : Int := x.toNat

/-- `trunc_N(v) = v mod 2^N`, as a lane's pattern (00_scope R15). -/
def trunc (df : Fmt) (v : Int) : Lane df := BitVec.ofInt (laneBits df) v

/-- `minInt(N) = -2^(N-1)` (00_scope R15). -/
def minInt (n : Nat) : Int := -2 ^ (n - 1)

/-- `maxInt(N) = 2^(N-1) - 1` (00_scope R15). -/
def maxInt (n : Nat) : Int := 2 ^ (n - 1) - 1

/-- `maxUint(N) = 2^N - 1` (00_scope R15). -/
def maxUint (n : Nat) : Int := 2 ^ n - 1

/-- `clamp(x, lo, hi)` (00_scope R16). -/
def clamp (x lo hi : Int) : Int := if x < lo then lo else if hi < x then hi else x

/-- `|x|`, exact (00_scope R16). -/
def mag (x : Int) : Int := x.natAbs

/-- `x >>a k = floor(x / 2^k)` (00_scope R16); on a zero-extended operand also `>>l`. -/
def shr (x : Int) (k : Nat) : Int := x / 2 ^ k

/-- `x << k = x * 2^k` (00_scope R16). -/
def shl (x : Int) (k : Nat) : Int := x * 2 ^ k

/-- Bit `k` of a pattern as 0 or 1 (00_scope R14). -/
def bitAt {n : Nat} (x : BitVec n) (k : Nat) : Int := if x.getLsbD k then 1 else 0

/-- The pattern with only bit `k` set. -/
def oneBit (n k : Nat) : BitVec n := BitVec.ofNat n (2 ^ k)

/-- The low half of a lane, the even sub-lane (43 R232). -/
def evenHalf {df : Fmt} (v : Lane df) : BitVec (laneBits df / 2) := v.extractLsb' 0 (laneBits df / 2)

/-- The high half of a lane, the odd sub-lane (43 R232). -/
def oddHalf {df : Fmt} (v : Lane df) : BitVec (laneBits df / 2) :=
  v.extractLsb' (laneBits df / 2) (laneBits df / 2)

/-- `evenS` (43 R232). -/
def evenS {df : Fmt} (v : Lane df) : Int := sext (evenHalf v)

/-- `oddS` (43 R232). -/
def oddS {df : Fmt} (v : Lane df) : Int := sext (oddHalf v)

/-- `evenU` (43 R232). -/
def evenU {df : Fmt} (v : Lane df) : Int := zext (evenHalf v)

/-- `oddU` (43 R232). -/
def oddU {df : Fmt} (v : Lane df) : Int := zext (oddHalf v)

/-- `popcount`: the number of 1 bits of a pattern (45 R295). -/
def popcount {n : Nat} (x : BitVec n) : Nat := (List.range n).countP x.getLsbD

/-- The number of consecutive 0 bits among bits `k - 1` down to 0 of a pattern, from the top. -/
def leadingZerosBelow {n : Nat} (x : BitVec n) : Nat → Nat
  | 0 => 0
  | k + 1 => if x.getLsbD k then 0 else leadingZerosBelow x k + 1

/-- `nlz(x, N)`: consecutive 0 bits from bit `N - 1` downward, `N` when `x = 0` (45 R296). -/
def nlz {n : Nat} (x : BitVec n) : Nat := leadingZerosBelow x n

end Sys2Proof.Machine
end

