-- ==== Sys2Proof/Machine/Flags.lean ====
section
/-! DEFINITION. The block has no flags and no condition codes (10_state R35). What stands in their place: the
mask a compare writes into its result lane, and the modify bitmap an operation marks. -/

namespace Sys2Proof.Machine

/-- The mask lane of a compare before the store truncates it: -1 is `allOnes(N)`, 0 is all zeros (42 R211). -/
def mask (p : Bool) : Int := if p then -1 else 0

/-- `signalModified(wd)`: marks `wd` in `MODIFY` when tracking is on (40 R141). -/
def signalModified (s : State) (wd : Reg) : State :=
  if s.params.trackEnable then { s with modify := s.modify ||| oneBit 32 wd.val } else s

/-- The collaborator's clearing of `MODIFY` bits (10_state R39; log 18). -/
def clearModify (s : State) (m : BitVec 32) : State := { s with modify := s.modify &&& ~~~m }

/-- Another context's atomic OR into a shared `MODIFY` (60 R388; log 17). -/
def contextOr (s : State) (m : BitVec 32) : State := { s with modify := s.modify ||| m }

end Sys2Proof.Machine
end

