-- ==== Sys2Proof/Machine/Ops.lean ====
section
/-! DEFINITION. The lane accessor, the fault, and the drivers every operation runs through (40 R130 to R145). -/

namespace Sys2Proof.Machine

/-! ## The register file -/

/-- `w[r]` (00_scope R17). -/
def State.rd (s : State) (r : Reg) : Vec := s.w.get r

/-- `w[r] <- V` (00_scope R17). -/
def State.wr (s : State) (r : Reg) (v : Vec) : State := { s with w := s.w.set r.val v r.isLt }

/-! ## Lanes -/

/-- `lane(V, df, i) = V[(i+1)N-1 : iN]` (10_state R32). -/
def lane (V : Vec) (df : Fmt) (i : Nat) : Lane df := V.extractLsb' (i * laneBits df) (laneBits df)

/-- `V` with lane `i` replaced, every other bit unchanged (40 R134). -/
def putLane (V : Vec) (df : Fmt) (i : Nat) (x : Lane df) : Vec :=
  (V &&& ~~~(((BitVec.allOnes (laneBits df)).setWidth 128) <<< (i * laneBits df)))
    ||| ((x.setWidth 128) <<< (i * laneBits df))

/-- The lane an access through the modulo path reads: index `i mod laneCount(df)`, so the `checkIndex` that
follows it always passes (40 R132, R133, R135; log 16). -/
def loadLane (s : State) (r : Reg) (df : Fmt) (i : Nat) : Lane df := lane (s.rd r) df (i % laneCount df)

/-- `loadS(r, df, i)` (40 R132). -/
def loadS (s : State) (r : Reg) (df : Fmt) (i : Nat) : Int := sext (loadLane s r df i)

/-- `loadU(r, df, i)` (40 R133). -/
def loadU (s : State) (r : Reg) (df : Fmt) (i : Nat) : Int := zext (loadLane s r df i)

/-- `store(r, df, i, v)`: truncates and writes one lane (40 R134). -/
def store (s : State) (r : Reg) (df : Fmt) (i : Nat) (v : Int) : State :=
  s.wr r (putLane (s.rd r) df (i % laneCount df) (trunc df v))

/-! ## The fault -/

/-- `raise ReservedInstruction(df, k)`: the block's one exception. It ends the operation with the state
before it and hands the fault to the container (40 R143, R145; 60 R370, R376, R379). -/
def raiseReserved (df : Fmt) (k : Nat) : Result := .fault (.reservedInstruction df k)

/-- `raiseFault(context, InvalidOperand)`: a fault of an operation is handed to the container, once, and changes
nothing else; `s` is the state before the operation. Whether anything is issued after it is the CPU's choice,
which the input list says (60 R375 to R377, 70_reset R399; log 10). -/
def handOver (s : State) : Result → Result
  | .fault f => .next { s with faults := s.faults ++ [f] }
  | .next t => .next t
  | .refused why => .refused why

/-- `checkIndex(df, k)` on the unreduced index, before the rest of the operation (40 R130, R136). -/
def checkIndex (df : Fmt) (k : Nat) (rest : Result) : Result :=
  if laneCount df - 1 < k then raiseReserved df k else rest

/-! ## The drivers -/

/-- The end of an operation that has written `wd`: the modify signal, then `Done` (40 R141, R145). -/
def done (s : State) (wd : Reg) : Result := .next (signalModified s wd)

/-- The lane sweep in place: for each lane of the list, compute its new value from the state as it is then,
and store it into `wd` (40 R138). -/
def laneSweep (df : Fmt) (wd : Reg) (f : State → Nat → Int) : List Nat → State → State
  | [], s => s
  | i :: is, s => laneSweep df wd f is (store s wd df i (f s i))

/-- The in-place-safe driver: lanes in increasing order, each written straight into `wd` (40 R138). -/
def laneDriver (df : Fmt) (wd : Reg) (f : State → Nat → Int) (s : State) : Result :=
  done (laneSweep df wd f (List.range (laneCount df)) s) wd

/-- The lane-wise driver with sources `wd`, `ws`, `wt`: the kernel takes lane `i` of each, in that order, as
patterns (40 R138; `d`, `a`, `b` of 43 R230). -/
def lanewise3 (df : Fmt) (wd ws wt : Reg) (k : Lane df → Lane df → Lane df → Int) : State → Result :=
  laneDriver df wd fun s i => k (loadLane s wd df i) (loadLane s ws df i) (loadLane s wt df i)

/-- The lane-wise driver with sources `wd` and `ws` (40 R138). -/
def lanewise2 (df : Fmt) (wd ws : Reg) (k : Lane df → Lane df → Int) : State → Result :=
  laneDriver df wd fun s i => k (loadLane s wd df i) (loadLane s ws df i)

/-- The broadcast driver: one value, computed before any write, into every lane of `wd` (40 R142). -/
def broadcast (df : Fmt) (wd : Reg) (v : Int) : State → Result := laneDriver df wd fun _ _ => v

/-- The staging sweep: `storeX` for each result lane in the rule's order (40 R134, R139). -/
def stage (df : Fmt) : List (Nat × Lane df) → Vec → Vec
  | [], X => X
  | (i, x) :: rest, X => stage df rest (putLane X df (i % laneCount df) x)

/-- The staged driver: the whole result is built in the staging register from sources read before any
write, and committed as one 128-bit write (40 R139, R140). The staging register starts as zero; what it
starts as never reaches `wd` (10_state R44; log 15). -/
def staged (df : Fmt) (wd : Reg) (writes : List (Nat × Lane df)) (s : State) : Result :=
  done (s.wr wd (stage df writes 0)) wd

/-- A whole-register operation: the 128-bit result, computed from the old values, written once (45 R298). -/
def whole (wd : Reg) (V : Vec) (s : State) : Result := done (s.wr wd V) wd

/-- A single-lane operation: one store into `wd`, the other lanes unchanged (40 R148, R149). -/
def oneLane (df : Fmt) (wd : Reg) (i : Nat) (v : Int) (s : State) : Result := done (store s wd df i v) wd

/-- `gpr_out <- trunc_GPRLEN(v)`, for the general-purpose register `rd` (10_state R37, 40 R146). -/
def driveGprOut (s : State) (rd : Gpr) (v : Int) : Result :=
  .next { s with gprOut := { rd := rd, value := BitVec.ofInt 64 (v % 2 ^ s.params.gprLen.bits) } }

end Sys2Proof.Machine
end

