-- ==== Sys2Proof/Machine/Operands.lean ====
section
/-! DEFINITION. The operand forms beside a register's lanes: an immediate with its range (30_encoding R83, R96,
R97), the scalar operand and the index taken from it (10_state R36, 40 R137), the bit position of a
register form (45 R281, 46 R320), and the width check of the forms that need a 64-bit scalar (R107). -/

namespace Sys2Proof.Machine

/-- An operation with an immediate runs only on an immediate in its range (30_encoding R83). -/
def withImmediate (inRange : Bool) (rest : Result) : Result :=
  if inRange then rest else .refused .immediateOutOfRange

/-- The forms that exist only when `GPRLEN = 64` (30_encoding R107). -/
def requireGprLen64 (s : State) (rest : Result) : Result :=
  match s.params.gprLen with
  | .w64 => rest
  | .w32 => .refused .reservedAtGprLen32

/-- `gpr_in` read as an unsigned GPRLEN-bit integer (10_state R36, 40 R137). -/
def scalarIn (s : State) : Nat := s.gprIn.toNat % 2 ^ s.params.gprLen.bits

/-- A scalar-derived lane index: reduced modulo the lane count, so it never faults (40 R137). -/
def scalarIndex (s : State) (df : Fmt) : Nat := scalarIn s % laneCount df

/-- The bit position or shift amount of a register form: lane `i` of `wt` read unsigned, modulo the lane
width (45 R281, 46 R320). -/
def bitPos {df : Fmt} (b : Lane df) : Nat := b.toNat % laneBits df

/-- The immediate `i8` as a byte pattern (30_encoding R97). -/
def i8Byte (i8 : Nat) : Lane .b := BitVec.ofNat (laneBits .b) i8

end Sys2Proof.Machine
end

