-- ==== Sys2Proof/Machine/AddSub.lean ====
section
/-! DEFINITION. Add, subtract, absolute difference and average (41 R170 to R188). In each kernel `a` is the
lane of `ws` and `b` the lane of `wt`. -/

namespace Sys2Proof.Machine

/-- `addv` (R171). -/
def opAddv (df : Fmt) (wd ws wt : Reg) (s : State) : Result :=
  lanewise3 df wd ws wt (fun _ a b => sext a + sext b) s

/-- `addvi` (R172). -/
def opAddvi (df : Fmt) (wd ws : Reg) (u5 : Nat) (s : State) : Result :=
  withImmediate (u5Ok u5) (lanewise2 df wd ws (fun _ a => sext a + u5) s)

/-- `subv` (R173). -/
def opSubv (df : Fmt) (wd ws wt : Reg) (s : State) : Result :=
  lanewise3 df wd ws wt (fun _ a b => sext a - sext b) s

/-- `subvi` (R174). -/
def opSubvi (df : Fmt) (wd ws : Reg) (u5 : Nat) (s : State) : Result :=
  withImmediate (u5Ok u5) (lanewise2 df wd ws (fun _ a => sext a - u5) s)

/-- `adds_s` (R175). -/
def opAddsS (df : Fmt) (wd ws wt : Reg) (s : State) : Result :=
  lanewise3 df wd ws wt
    (fun _ a b => clamp (sext a + sext b) (minInt (laneBits df)) (maxInt (laneBits df))) s

/-- `adds_u` (R176). -/
def opAddsU (df : Fmt) (wd ws wt : Reg) (s : State) : Result :=
  lanewise3 df wd ws wt (fun _ a b => min (zext a + zext b) (maxUint (laneBits df))) s

/-- `subs_s` (R177). -/
def opSubsS (df : Fmt) (wd ws wt : Reg) (s : State) : Result :=
  lanewise3 df wd ws wt
    (fun _ a b => clamp (sext a - sext b) (minInt (laneBits df)) (maxInt (laneBits df))) s

/-- `subs_u` (R178). -/
def opSubsU (df : Fmt) (wd ws wt : Reg) (s : State) : Result :=
  lanewise3 df wd ws wt (fun _ a b => max (zext a - zext b) 0) s

/-- `subsus_u`: `ws` unsigned, `wt` signed (R179). -/
def opSubsusU (df : Fmt) (wd ws wt : Reg) (s : State) : Result :=
  lanewise3 df wd ws wt (fun _ a b => clamp (zext a - sext b) 0 (maxUint (laneBits df))) s

/-- `subsuu_s`: both unsigned, signed range (R180). -/
def opSubsuuS (df : Fmt) (wd ws wt : Reg) (s : State) : Result :=
  lanewise3 df wd ws wt
    (fun _ a b => clamp (zext a - zext b) (minInt (laneBits df)) (maxInt (laneBits df))) s

/-- `asub_s` (R181). -/
def opAsubS (df : Fmt) (wd ws wt : Reg) (s : State) : Result :=
  lanewise3 df wd ws wt (fun _ a b => mag (sext a - sext b)) s

/-- `asub_u` (R182). -/
def opAsubU (df : Fmt) (wd ws wt : Reg) (s : State) : Result :=
  lanewise3 df wd ws wt (fun _ a b => mag (zext a - zext b)) s

/-- `add_a` (R183). -/
def opAddA (df : Fmt) (wd ws wt : Reg) (s : State) : Result :=
  lanewise3 df wd ws wt (fun _ a b => mag (sext a) + mag (sext b)) s

/-- `adds_a` (R184). -/
def opAddsA (df : Fmt) (wd ws wt : Reg) (s : State) : Result :=
  lanewise3 df wd ws wt (fun _ a b => min (mag (sext a) + mag (sext b)) (maxInt (laneBits df))) s

/-- `ave_s` (R185). -/
def opAveS (df : Fmt) (wd ws wt : Reg) (s : State) : Result :=
  lanewise3 df wd ws wt (fun _ a b => shr (sext a) 1 + shr (sext b) 1 + bitAt (a &&& b) 0) s

/-- `ave_u` (R186). -/
def opAveU (df : Fmt) (wd ws wt : Reg) (s : State) : Result :=
  lanewise3 df wd ws wt (fun _ a b => shr (zext a) 1 + shr (zext b) 1 + bitAt (a &&& b) 0) s

/-- `aver_s` (R187). -/
def opAverS (df : Fmt) (wd ws wt : Reg) (s : State) : Result :=
  lanewise3 df wd ws wt (fun _ a b => shr (sext a) 1 + shr (sext b) 1 + bitAt (a ||| b) 0) s

/-- `aver_u` (R188). -/
def opAverU (df : Fmt) (wd ws wt : Reg) (s : State) : Result :=
  lanewise3 df wd ws wt (fun _ a b => shr (zext a) 1 + shr (zext b) 1 + bitAt (a ||| b) 0) s

/-! ## The meaning of each row -/

/-- `addv.b` (R171). -/
def execAddvB (wd ws wt : Reg) (s : State) : Result := opAddv .b wd ws wt s

/-- `addv.h` (R171). -/
def execAddvH (wd ws wt : Reg) (s : State) : Result := opAddv .h wd ws wt s

/-- `addv.w` (R171). -/
def execAddvW (wd ws wt : Reg) (s : State) : Result := opAddv .w wd ws wt s

/-- `addv.d` (R171). -/
def execAddvD (wd ws wt : Reg) (s : State) : Result := opAddv .d wd ws wt s

/-- `addvi.b` (R172). -/
def execAddviB (wd ws : Reg) (u5 : Nat) (s : State) : Result := opAddvi .b wd ws u5 s

/-- `addvi.h` (R172). -/
def execAddviH (wd ws : Reg) (u5 : Nat) (s : State) : Result := opAddvi .h wd ws u5 s

/-- `addvi.w` (R172). -/
def execAddviW (wd ws : Reg) (u5 : Nat) (s : State) : Result := opAddvi .w wd ws u5 s

/-- `addvi.d` (R172). -/
def execAddviD (wd ws : Reg) (u5 : Nat) (s : State) : Result := opAddvi .d wd ws u5 s

/-- `subv.b` (R173). -/
def execSubvB (wd ws wt : Reg) (s : State) : Result := opSubv .b wd ws wt s

/-- `subv.h` (R173). -/
def execSubvH (wd ws wt : Reg) (s : State) : Result := opSubv .h wd ws wt s

/-- `subv.w` (R173). -/
def execSubvW (wd ws wt : Reg) (s : State) : Result := opSubv .w wd ws wt s

/-- `subv.d` (R173). -/
def execSubvD (wd ws wt : Reg) (s : State) : Result := opSubv .d wd ws wt s

/-- `subvi.b` (R174). -/
def execSubviB (wd ws : Reg) (u5 : Nat) (s : State) : Result := opSubvi .b wd ws u5 s

/-- `subvi.h` (R174). -/
def execSubviH (wd ws : Reg) (u5 : Nat) (s : State) : Result := opSubvi .h wd ws u5 s

/-- `subvi.w` (R174). -/
def execSubviW (wd ws : Reg) (u5 : Nat) (s : State) : Result := opSubvi .w wd ws u5 s

/-- `subvi.d` (R174). -/
def execSubviD (wd ws : Reg) (u5 : Nat) (s : State) : Result := opSubvi .d wd ws u5 s

/-- `adds_s.b` (R175). -/
def execAddsSB (wd ws wt : Reg) (s : State) : Result := opAddsS .b wd ws wt s

/-- `adds_s.h` (R175). -/
def execAddsSH (wd ws wt : Reg) (s : State) : Result := opAddsS .h wd ws wt s

/-- `adds_s.w` (R175). -/
def execAddsSW (wd ws wt : Reg) (s : State) : Result := opAddsS .w wd ws wt s

/-- `adds_s.d` (R175). -/
def execAddsSD (wd ws wt : Reg) (s : State) : Result := opAddsS .d wd ws wt s

/-- `adds_u.b` (R176). -/
def execAddsUB (wd ws wt : Reg) (s : State) : Result := opAddsU .b wd ws wt s

/-- `adds_u.h` (R176). -/
def execAddsUH (wd ws wt : Reg) (s : State) : Result := opAddsU .h wd ws wt s

/-- `adds_u.w` (R176). -/
def execAddsUW (wd ws wt : Reg) (s : State) : Result := opAddsU .w wd ws wt s

/-- `adds_u.d` (R176). -/
def execAddsUD (wd ws wt : Reg) (s : State) : Result := opAddsU .d wd ws wt s

/-- `subs_s.b` (R177). -/
def execSubsSB (wd ws wt : Reg) (s : State) : Result := opSubsS .b wd ws wt s

/-- `subs_s.h` (R177). -/
def execSubsSH (wd ws wt : Reg) (s : State) : Result := opSubsS .h wd ws wt s

/-- `subs_s.w` (R177). -/
def execSubsSW (wd ws wt : Reg) (s : State) : Result := opSubsS .w wd ws wt s

/-- `subs_s.d` (R177). -/
def execSubsSD (wd ws wt : Reg) (s : State) : Result := opSubsS .d wd ws wt s

/-- `subs_u.b` (R178). -/
def execSubsUB (wd ws wt : Reg) (s : State) : Result := opSubsU .b wd ws wt s

/-- `subs_u.h` (R178). -/
def execSubsUH (wd ws wt : Reg) (s : State) : Result := opSubsU .h wd ws wt s

/-- `subs_u.w` (R178). -/
def execSubsUW (wd ws wt : Reg) (s : State) : Result := opSubsU .w wd ws wt s

/-- `subs_u.d` (R178). -/
def execSubsUD (wd ws wt : Reg) (s : State) : Result := opSubsU .d wd ws wt s

/-- `subsus_u.b` (R179). -/
def execSubsusUB (wd ws wt : Reg) (s : State) : Result := opSubsusU .b wd ws wt s

/-- `subsus_u.h` (R179). -/
def execSubsusUH (wd ws wt : Reg) (s : State) : Result := opSubsusU .h wd ws wt s

/-- `subsus_u.w` (R179). -/
def execSubsusUW (wd ws wt : Reg) (s : State) : Result := opSubsusU .w wd ws wt s

/-- `subsus_u.d` (R179). -/
def execSubsusUD (wd ws wt : Reg) (s : State) : Result := opSubsusU .d wd ws wt s

/-- `subsuu_s.b` (R180). -/
def execSubsuuSB (wd ws wt : Reg) (s : State) : Result := opSubsuuS .b wd ws wt s

/-- `subsuu_s.h` (R180). -/
def execSubsuuSH (wd ws wt : Reg) (s : State) : Result := opSubsuuS .h wd ws wt s

/-- `subsuu_s.w` (R180). -/
def execSubsuuSW (wd ws wt : Reg) (s : State) : Result := opSubsuuS .w wd ws wt s

/-- `subsuu_s.d` (R180). -/
def execSubsuuSD (wd ws wt : Reg) (s : State) : Result := opSubsuuS .d wd ws wt s

/-- `asub_s.b` (R181). -/
def execAsubSB (wd ws wt : Reg) (s : State) : Result := opAsubS .b wd ws wt s

/-- `asub_s.h` (R181). -/
def execAsubSH (wd ws wt : Reg) (s : State) : Result := opAsubS .h wd ws wt s

/-- `asub_s.w` (R181). -/
def execAsubSW (wd ws wt : Reg) (s : State) : Result := opAsubS .w wd ws wt s

/-- `asub_s.d` (R181). -/
def execAsubSD (wd ws wt : Reg) (s : State) : Result := opAsubS .d wd ws wt s

/-- `asub_u.b` (R182). -/
def execAsubUB (wd ws wt : Reg) (s : State) : Result := opAsubU .b wd ws wt s

/-- `asub_u.h` (R182). -/
def execAsubUH (wd ws wt : Reg) (s : State) : Result := opAsubU .h wd ws wt s

/-- `asub_u.w` (R182). -/
def execAsubUW (wd ws wt : Reg) (s : State) : Result := opAsubU .w wd ws wt s

/-- `asub_u.d` (R182). -/
def execAsubUD (wd ws wt : Reg) (s : State) : Result := opAsubU .d wd ws wt s

/-- `add_a.b` (R183). -/
def execAddAB (wd ws wt : Reg) (s : State) : Result := opAddA .b wd ws wt s

/-- `add_a.h` (R183). -/
def execAddAH (wd ws wt : Reg) (s : State) : Result := opAddA .h wd ws wt s

/-- `add_a.w` (R183). -/
def execAddAW (wd ws wt : Reg) (s : State) : Result := opAddA .w wd ws wt s

/-- `add_a.d` (R183). -/
def execAddAD (wd ws wt : Reg) (s : State) : Result := opAddA .d wd ws wt s

/-- `adds_a.b` (R184). -/
def execAddsAB (wd ws wt : Reg) (s : State) : Result := opAddsA .b wd ws wt s

/-- `adds_a.h` (R184). -/
def execAddsAH (wd ws wt : Reg) (s : State) : Result := opAddsA .h wd ws wt s

/-- `adds_a.w` (R184). -/
def execAddsAW (wd ws wt : Reg) (s : State) : Result := opAddsA .w wd ws wt s

/-- `adds_a.d` (R184). -/
def execAddsAD (wd ws wt : Reg) (s : State) : Result := opAddsA .d wd ws wt s

/-- `ave_s.b` (R185). -/
def execAveSB (wd ws wt : Reg) (s : State) : Result := opAveS .b wd ws wt s

/-- `ave_s.h` (R185). -/
def execAveSH (wd ws wt : Reg) (s : State) : Result := opAveS .h wd ws wt s

/-- `ave_s.w` (R185). -/
def execAveSW (wd ws wt : Reg) (s : State) : Result := opAveS .w wd ws wt s

/-- `ave_s.d` (R185). -/
def execAveSD (wd ws wt : Reg) (s : State) : Result := opAveS .d wd ws wt s

/-- `ave_u.b` (R186). -/
def execAveUB (wd ws wt : Reg) (s : State) : Result := opAveU .b wd ws wt s

/-- `ave_u.h` (R186). -/
def execAveUH (wd ws wt : Reg) (s : State) : Result := opAveU .h wd ws wt s

/-- `ave_u.w` (R186). -/
def execAveUW (wd ws wt : Reg) (s : State) : Result := opAveU .w wd ws wt s

/-- `ave_u.d` (R186). -/
def execAveUD (wd ws wt : Reg) (s : State) : Result := opAveU .d wd ws wt s

/-- `aver_s.b` (R187). -/
def execAverSB (wd ws wt : Reg) (s : State) : Result := opAverS .b wd ws wt s

/-- `aver_s.h` (R187). -/
def execAverSH (wd ws wt : Reg) (s : State) : Result := opAverS .h wd ws wt s

/-- `aver_s.w` (R187). -/
def execAverSW (wd ws wt : Reg) (s : State) : Result := opAverS .w wd ws wt s

/-- `aver_s.d` (R187). -/
def execAverSD (wd ws wt : Reg) (s : State) : Result := opAverS .d wd ws wt s

/-- `aver_u.b` (R188). -/
def execAverUB (wd ws wt : Reg) (s : State) : Result := opAverU .b wd ws wt s

/-- `aver_u.h` (R188). -/
def execAverUH (wd ws wt : Reg) (s : State) : Result := opAverU .h wd ws wt s

/-- `aver_u.w` (R188). -/
def execAverUW (wd ws wt : Reg) (s : State) : Result := opAverU .w wd ws wt s

/-- `aver_u.d` (R188). -/
def execAverUD (wd ws wt : Reg) (s : State) : Result := opAverU .d wd ws wt s

end Sys2Proof.Machine
end

