-- ==== Sys2Proof/Machine/BitOps.lean ====
section
/-! DEFINITION. Bit clear, set, negate and insert, saturate, counts (45 R280 to R297). `d` is the lane of `wd` as
it was, `a` the lane of `ws`, `b` the lane of `wt`; a register form's position is `bitPos b`. -/

namespace Sys2Proof.Machine

/-- Bit `p` cleared (R282). -/
def clearBit {df : Fmt} (a : Lane df) (p : Nat) : Lane df := a &&& ~~~oneBit (laneBits df) p

/-- Bit `p` set (R284). -/
def setBit {df : Fmt} (a : Lane df) (p : Nat) : Lane df := a ||| oneBit (laneBits df) p

/-- Bit `p` inverted (R286). -/
def flipBit {df : Fmt} (a : Lane df) (p : Nat) : Lane df := a ^^^ oneBit (laneBits df) p

/-- The pattern whose low `k` bits are 1: `2^k - 1`. -/
def lowBits (n k : Nat) : BitVec n := BitVec.ofNat n (2 ^ k - 1)

/-- `insL(a, d, k)`: the top `k` bits from `a`, the rest from `d` (R288). -/
def insL {df : Fmt} (a d : Lane df) (k : Nat) : Lane df :=
  if k = laneBits df then a
  else (a &&& ~~~lowBits (laneBits df) (laneBits df - k)) ||| (d &&& lowBits (laneBits df) (laneBits df - k))

/-- `insR(a, d, k)`: the low `k` bits from `a`, the rest from `d` (R288). -/
def insR {df : Fmt} (a d : Lane df) (k : Nat) : Lane df :=
  if k = laneBits df then a
  else (a &&& lowBits (laneBits df) k) ||| (d &&& ~~~lowBits (laneBits df) k)

/-- `bclr` (R282). -/
def opBclr (df : Fmt) (wd ws wt : Reg) (s : State) : Result :=
  lanewise3 df wd ws wt (fun _ a b => zext (clearBit a (bitPos b))) s

/-- `bclri` (R283). -/
def opBclri (df : Fmt) (wd ws : Reg) (m : Nat) (s : State) : Result :=
  withImmediate (mOk df m) (lanewise2 df wd ws (fun _ a => zext (clearBit a m)) s)

/-- `bset` (R284). -/
def opBset (df : Fmt) (wd ws wt : Reg) (s : State) : Result :=
  lanewise3 df wd ws wt (fun _ a b => zext (setBit a (bitPos b))) s

/-- `bseti` (R285). -/
def opBseti (df : Fmt) (wd ws : Reg) (m : Nat) (s : State) : Result :=
  withImmediate (mOk df m) (lanewise2 df wd ws (fun _ a => zext (setBit a m)) s)

/-- `bneg` (R286). -/
def opBneg (df : Fmt) (wd ws wt : Reg) (s : State) : Result :=
  lanewise3 df wd ws wt (fun _ a b => zext (flipBit a (bitPos b))) s

/-- `bnegi` (R287). -/
def opBnegi (df : Fmt) (wd ws : Reg) (m : Nat) (s : State) : Result :=
  withImmediate (mOk df m) (lanewise2 df wd ws (fun _ a => zext (flipBit a m)) s)

/-- `binsl` (R289). -/
def opBinsl (df : Fmt) (wd ws wt : Reg) (s : State) : Result :=
  lanewise3 df wd ws wt (fun d a b => zext (insL a d (bitPos b + 1))) s

/-- `binsli` (R290). -/
def opBinsli (df : Fmt) (wd ws : Reg) (m : Nat) (s : State) : Result :=
  withImmediate (mOk df m) (lanewise2 df wd ws (fun d a => zext (insL a d (m + 1))) s)

/-- `binsr` (R291). -/
def opBinsr (df : Fmt) (wd ws wt : Reg) (s : State) : Result :=
  lanewise3 df wd ws wt (fun d a b => zext (insR a d (bitPos b + 1))) s

/-- `binsri` (R292). -/
def opBinsri (df : Fmt) (wd ws : Reg) (m : Nat) (s : State) : Result :=
  withImmediate (mOk df m) (lanewise2 df wd ws (fun d a => zext (insR a d (m + 1))) s)

/-- `sat_s` (R293). -/
def opSatS (df : Fmt) (wd ws : Reg) (m : Nat) (s : State) : Result :=
  withImmediate (mOk df m) (lanewise2 df wd ws (fun _ a => clamp (sext a) (-2 ^ m) (2 ^ m - 1)) s)

/-- `sat_u` (R294). -/
def opSatU (df : Fmt) (wd ws : Reg) (m : Nat) (s : State) : Result :=
  withImmediate (mOk df m) (lanewise2 df wd ws (fun _ a => min (zext a) (2 ^ (m + 1) - 1)) s)

/-- `pcnt` (R295). -/
def opPcnt (df : Fmt) (wd ws : Reg) (s : State) : Result :=
  lanewise2 df wd ws (fun _ a => popcount a) s

/-- `nloc` (R296). -/
def opNloc (df : Fmt) (wd ws : Reg) (s : State) : Result :=
  lanewise2 df wd ws (fun _ a => nlz (~~~a)) s

/-- `nlzc` (R297). -/
def opNlzc (df : Fmt) (wd ws : Reg) (s : State) : Result :=
  lanewise2 df wd ws (fun _ a => nlz a) s

/-! ## The meaning of each row -/

/-- `bclr.b` (R282). -/
def execBclrB (wd ws wt : Reg) (s : State) : Result := opBclr .b wd ws wt s

/-- `bclr.h` (R282). -/
def execBclrH (wd ws wt : Reg) (s : State) : Result := opBclr .h wd ws wt s

/-- `bclr.w` (R282). -/
def execBclrW (wd ws wt : Reg) (s : State) : Result := opBclr .w wd ws wt s

/-- `bclr.d` (R282). -/
def execBclrD (wd ws wt : Reg) (s : State) : Result := opBclr .d wd ws wt s

/-- `bclri.b` (R283). -/
def execBclriB (wd ws : Reg) (m : Nat) (s : State) : Result := opBclri .b wd ws m s

/-- `bclri.h` (R283). -/
def execBclriH (wd ws : Reg) (m : Nat) (s : State) : Result := opBclri .h wd ws m s

/-- `bclri.w` (R283). -/
def execBclriW (wd ws : Reg) (m : Nat) (s : State) : Result := opBclri .w wd ws m s

/-- `bclri.d` (R283). -/
def execBclriD (wd ws : Reg) (m : Nat) (s : State) : Result := opBclri .d wd ws m s

/-- `bset.b` (R284). -/
def execBsetB (wd ws wt : Reg) (s : State) : Result := opBset .b wd ws wt s

/-- `bset.h` (R284). -/
def execBsetH (wd ws wt : Reg) (s : State) : Result := opBset .h wd ws wt s

/-- `bset.w` (R284). -/
def execBsetW (wd ws wt : Reg) (s : State) : Result := opBset .w wd ws wt s

/-- `bset.d` (R284). -/
def execBsetD (wd ws wt : Reg) (s : State) : Result := opBset .d wd ws wt s

/-- `bseti.b` (R285). -/
def execBsetiB (wd ws : Reg) (m : Nat) (s : State) : Result := opBseti .b wd ws m s

/-- `bseti.h` (R285). -/
def execBsetiH (wd ws : Reg) (m : Nat) (s : State) : Result := opBseti .h wd ws m s

/-- `bseti.w` (R285). -/
def execBsetiW (wd ws : Reg) (m : Nat) (s : State) : Result := opBseti .w wd ws m s

/-- `bseti.d` (R285). -/
def execBsetiD (wd ws : Reg) (m : Nat) (s : State) : Result := opBseti .d wd ws m s

/-- `bneg.b` (R286). -/
def execBnegB (wd ws wt : Reg) (s : State) : Result := opBneg .b wd ws wt s

/-- `bneg.h` (R286). -/
def execBnegH (wd ws wt : Reg) (s : State) : Result := opBneg .h wd ws wt s

/-- `bneg.w` (R286). -/
def execBnegW (wd ws wt : Reg) (s : State) : Result := opBneg .w wd ws wt s

/-- `bneg.d` (R286). -/
def execBnegD (wd ws wt : Reg) (s : State) : Result := opBneg .d wd ws wt s

/-- `bnegi.b` (R287). -/
def execBnegiB (wd ws : Reg) (m : Nat) (s : State) : Result := opBnegi .b wd ws m s

/-- `bnegi.h` (R287). -/
def execBnegiH (wd ws : Reg) (m : Nat) (s : State) : Result := opBnegi .h wd ws m s

/-- `bnegi.w` (R287). -/
def execBnegiW (wd ws : Reg) (m : Nat) (s : State) : Result := opBnegi .w wd ws m s

/-- `bnegi.d` (R287). -/
def execBnegiD (wd ws : Reg) (m : Nat) (s : State) : Result := opBnegi .d wd ws m s

/-- `binsl.b` (R289). -/
def execBinslB (wd ws wt : Reg) (s : State) : Result := opBinsl .b wd ws wt s

/-- `binsl.h` (R289). -/
def execBinslH (wd ws wt : Reg) (s : State) : Result := opBinsl .h wd ws wt s

/-- `binsl.w` (R289). -/
def execBinslW (wd ws wt : Reg) (s : State) : Result := opBinsl .w wd ws wt s

/-- `binsl.d` (R289). -/
def execBinslD (wd ws wt : Reg) (s : State) : Result := opBinsl .d wd ws wt s

/-- `binsli.b` (R290). -/
def execBinsliB (wd ws : Reg) (m : Nat) (s : State) : Result := opBinsli .b wd ws m s

/-- `binsli.h` (R290). -/
def execBinsliH (wd ws : Reg) (m : Nat) (s : State) : Result := opBinsli .h wd ws m s

/-- `binsli.w` (R290). -/
def execBinsliW (wd ws : Reg) (m : Nat) (s : State) : Result := opBinsli .w wd ws m s

/-- `binsli.d` (R290). -/
def execBinsliD (wd ws : Reg) (m : Nat) (s : State) : Result := opBinsli .d wd ws m s

/-- `binsr.b` (R291). -/
def execBinsrB (wd ws wt : Reg) (s : State) : Result := opBinsr .b wd ws wt s

/-- `binsr.h` (R291). -/
def execBinsrH (wd ws wt : Reg) (s : State) : Result := opBinsr .h wd ws wt s

/-- `binsr.w` (R291). -/
def execBinsrW (wd ws wt : Reg) (s : State) : Result := opBinsr .w wd ws wt s

/-- `binsr.d` (R291). -/
def execBinsrD (wd ws wt : Reg) (s : State) : Result := opBinsr .d wd ws wt s

/-- `binsri.b` (R292). -/
def execBinsriB (wd ws : Reg) (m : Nat) (s : State) : Result := opBinsri .b wd ws m s

/-- `binsri.h` (R292). -/
def execBinsriH (wd ws : Reg) (m : Nat) (s : State) : Result := opBinsri .h wd ws m s

/-- `binsri.w` (R292). -/
def execBinsriW (wd ws : Reg) (m : Nat) (s : State) : Result := opBinsri .w wd ws m s

/-- `binsri.d` (R292). -/
def execBinsriD (wd ws : Reg) (m : Nat) (s : State) : Result := opBinsri .d wd ws m s

/-- `sat_s.b` (R293). -/
def execSatSB (wd ws : Reg) (m : Nat) (s : State) : Result := opSatS .b wd ws m s

/-- `sat_s.h` (R293). -/
def execSatSH (wd ws : Reg) (m : Nat) (s : State) : Result := opSatS .h wd ws m s

/-- `sat_s.w` (R293). -/
def execSatSW (wd ws : Reg) (m : Nat) (s : State) : Result := opSatS .w wd ws m s

/-- `sat_s.d` (R293). -/
def execSatSD (wd ws : Reg) (m : Nat) (s : State) : Result := opSatS .d wd ws m s

/-- `sat_u.b` (R294). -/
def execSatUB (wd ws : Reg) (m : Nat) (s : State) : Result := opSatU .b wd ws m s

/-- `sat_u.h` (R294). -/
def execSatUH (wd ws : Reg) (m : Nat) (s : State) : Result := opSatU .h wd ws m s

/-- `sat_u.w` (R294). -/
def execSatUW (wd ws : Reg) (m : Nat) (s : State) : Result := opSatU .w wd ws m s

/-- `sat_u.d` (R294). -/
def execSatUD (wd ws : Reg) (m : Nat) (s : State) : Result := opSatU .d wd ws m s

/-- `pcnt.b` (R295). -/
def execPcntB (wd ws : Reg) (s : State) : Result := opPcnt .b wd ws s

/-- `pcnt.h` (R295). -/
def execPcntH (wd ws : Reg) (s : State) : Result := opPcnt .h wd ws s

/-- `pcnt.w` (R295). -/
def execPcntW (wd ws : Reg) (s : State) : Result := opPcnt .w wd ws s

/-- `pcnt.d` (R295). -/
def execPcntD (wd ws : Reg) (s : State) : Result := opPcnt .d wd ws s

/-- `nloc.b` (R296). -/
def execNlocB (wd ws : Reg) (s : State) : Result := opNloc .b wd ws s

/-- `nloc.h` (R296). -/
def execNlocH (wd ws : Reg) (s : State) : Result := opNloc .h wd ws s

/-- `nloc.w` (R296). -/
def execNlocW (wd ws : Reg) (s : State) : Result := opNloc .w wd ws s

/-- `nloc.d` (R296). -/
def execNlocD (wd ws : Reg) (s : State) : Result := opNloc .d wd ws s

/-- `nlzc.b` (R297). -/
def execNlzcB (wd ws : Reg) (s : State) : Result := opNlzc .b wd ws s

/-- `nlzc.h` (R297). -/
def execNlzcH (wd ws : Reg) (s : State) : Result := opNlzc .h wd ws s

/-- `nlzc.w` (R297). -/
def execNlzcW (wd ws : Reg) (s : State) : Result := opNlzc .w wd ws s

/-- `nlzc.d` (R297). -/
def execNlzcD (wd ws : Reg) (s : State) : Result := opNlzc .d wd ws s

end Sys2Proof.Machine
end

