-- ==== Sys2Proof/Machine/Element.lean ====
section
/-! DEFINITION. Element transfer between the vector file and the scalar ports (40 R146 to R151). -/

namespace Sys2Proof.Machine

/-- `copy_s` (R146). -/
def opCopyS (df : Fmt) (rd : Gpr) (ws : Reg) (n : Nat) (s : State) : Result :=
  checkIndex df n (driveGprOut s rd (loadS s ws df n))

/-- `copy_u` (R147). -/
def opCopyU (df : Fmt) (rd : Gpr) (ws : Reg) (n : Nat) (s : State) : Result :=
  checkIndex df n (driveGprOut s rd (loadU s ws df n))

/-- `insert` (R148). The GPR `rs` is read by the dispatcher: its value is on `gpr_in`. -/
def opInsert (df : Fmt) (wd : Reg) (_rs : Gpr) (n : Nat) (s : State) : Result :=
  checkIndex df n (oneLane df wd n (scalarIn s) s)

/-- `insve` (R149). -/
def opInsve (df : Fmt) (wd ws : Reg) (n : Nat) (s : State) : Result :=
  checkIndex df n (oneLane df wd n (loadU s ws df 0) s)

/-- `fill` (R150). The GPR `rs` is read by the dispatcher: its value is on `gpr_in`. -/
def opFill (df : Fmt) (wd : Reg) (_rs : Gpr) (s : State) : Result := broadcast df wd (scalarIn s) s

/-- `move.v` (R151). -/
def opMove (wd ws : Reg) (s : State) : Result := whole wd (s.rd ws) s

/-! ## The meaning of each row -/

/-- `copy_s.b` (R146). -/
def execCopySB (rd : Gpr) (ws : Reg) (n : Nat) (s : State) : Result := opCopyS .b rd ws n s

/-- `copy_s.h` (R146). -/
def execCopySH (rd : Gpr) (ws : Reg) (n : Nat) (s : State) : Result := opCopyS .h rd ws n s

/-- `copy_s.w` (R146). -/
def execCopySW (rd : Gpr) (ws : Reg) (n : Nat) (s : State) : Result := opCopyS .w rd ws n s

/-- `copy_s.d` (R146). -/
def execCopySD (rd : Gpr) (ws : Reg) (n : Nat) (s : State) : Result := requireGprLen64 s (opCopyS .d rd ws n s)

/-- `copy_u.b` (R147). -/
def execCopyUB (rd : Gpr) (ws : Reg) (n : Nat) (s : State) : Result := opCopyU .b rd ws n s

/-- `copy_u.h` (R147). -/
def execCopyUH (rd : Gpr) (ws : Reg) (n : Nat) (s : State) : Result := opCopyU .h rd ws n s

/-- `copy_u.w` (R147). -/
def execCopyUW (rd : Gpr) (ws : Reg) (n : Nat) (s : State) : Result := requireGprLen64 s (opCopyU .w rd ws n s)

/-- `insert.b` (R148). -/
def execInsertB (wd : Reg) (rs : Gpr) (n : Nat) (s : State) : Result := opInsert .b wd rs n s

/-- `insert.h` (R148). -/
def execInsertH (wd : Reg) (rs : Gpr) (n : Nat) (s : State) : Result := opInsert .h wd rs n s

/-- `insert.w` (R148). -/
def execInsertW (wd : Reg) (rs : Gpr) (n : Nat) (s : State) : Result := opInsert .w wd rs n s

/-- `insert.d` (R148). -/
def execInsertD (wd : Reg) (rs : Gpr) (n : Nat) (s : State) : Result := requireGprLen64 s (opInsert .d wd rs n s)

/-- `insve.b` (R149). -/
def execInsveB (wd ws : Reg) (n : Nat) (s : State) : Result := opInsve .b wd ws n s

/-- `insve.h` (R149). -/
def execInsveH (wd ws : Reg) (n : Nat) (s : State) : Result := opInsve .h wd ws n s

/-- `insve.w` (R149). -/
def execInsveW (wd ws : Reg) (n : Nat) (s : State) : Result := opInsve .w wd ws n s

/-- `insve.d` (R149). -/
def execInsveD (wd ws : Reg) (n : Nat) (s : State) : Result := opInsve .d wd ws n s

/-- `fill.b` (R150). -/
def execFillB (wd : Reg) (rs : Gpr) (s : State) : Result := opFill .b wd rs s

/-- `fill.h` (R150). -/
def execFillH (wd : Reg) (rs : Gpr) (s : State) : Result := opFill .h wd rs s

/-- `fill.w` (R150). -/
def execFillW (wd : Reg) (rs : Gpr) (s : State) : Result := opFill .w wd rs s

/-- `fill.d` (R150). -/
def execFillD (wd : Reg) (rs : Gpr) (s : State) : Result := requireGprLen64 s (opFill .d wd rs s)

/-- `move.v` (R151). -/
def execMoveV (wd ws : Reg) (s : State) : Result := opMove wd ws s

end Sys2Proof.Machine
end

