-- ==== Sys2Proof/Machine/FixedPoint.lean ====
section
/-! DEFINITION. Fixed-point (Q-format) multiply, formats h and w (44 R260 to R266). A lane of N bits is read
signed; the product is shifted right by `N - 1`; the rounding term is `2^(N-2)`. -/

namespace Sys2Proof.Machine

/-- The rounding term `rb` (R260). -/
def roundTerm (n : Nat) : Int := 2 ^ (n - 2)

/-- `mul_q` and `mulr_q` of two lanes, with rounding term `rb` or 0 (R261, R262). -/
def mulQ (n : Nat) (rb a b : Int) : Int :=
  if a = minInt n ∧ b = minInt n then maxInt n else shr (a * b + rb) (n - 1)

/-- The accumulating forms: `(d << s) + p` at double precision, one shift, saturated at both ends (R263 to
R266); `p` is the product with its sign and rounding term. -/
def accQ (n : Nat) (d p : Int) : Int := clamp (shr (shl d (n - 1) + p) (n - 1)) (minInt n) (maxInt n)

/-- `mul_q` (R261). -/
def opMulQ (f : FmtHw) (wd ws wt : Reg) (s : State) : Result :=
  lanewise3 f.fmt wd ws wt (fun _ a b => mulQ (laneBits f.fmt) 0 (sext a) (sext b)) s

/-- `mulr_q` (R262). -/
def opMulrQ (f : FmtHw) (wd ws wt : Reg) (s : State) : Result :=
  lanewise3 f.fmt wd ws wt
    (fun _ a b => mulQ (laneBits f.fmt) (roundTerm (laneBits f.fmt)) (sext a) (sext b)) s

/-- `madd_q` (R263). -/
def opMaddQ (f : FmtHw) (wd ws wt : Reg) (s : State) : Result :=
  lanewise3 f.fmt wd ws wt (fun d a b => accQ (laneBits f.fmt) (sext d) (sext a * sext b)) s

/-- `maddr_q` (R264). -/
def opMaddrQ (f : FmtHw) (wd ws wt : Reg) (s : State) : Result :=
  lanewise3 f.fmt wd ws wt
    (fun d a b => accQ (laneBits f.fmt) (sext d) (sext a * sext b + roundTerm (laneBits f.fmt))) s

/-- `msub_q` (R265). -/
def opMsubQ (f : FmtHw) (wd ws wt : Reg) (s : State) : Result :=
  lanewise3 f.fmt wd ws wt (fun d a b => accQ (laneBits f.fmt) (sext d) (-(sext a * sext b))) s

/-- `msubr_q` (R266). -/
def opMsubrQ (f : FmtHw) (wd ws wt : Reg) (s : State) : Result :=
  lanewise3 f.fmt wd ws wt
    (fun d a b => accQ (laneBits f.fmt) (sext d) (-(sext a * sext b) + roundTerm (laneBits f.fmt))) s

/-! ## The meaning of each row -/

/-- `mul_q.h` (R261). -/
def execMulQH (wd ws wt : Reg) (s : State) : Result := opMulQ .h wd ws wt s

/-- `mul_q.w` (R261). -/
def execMulQW (wd ws wt : Reg) (s : State) : Result := opMulQ .w wd ws wt s

/-- `mulr_q.h` (R262). -/
def execMulrQH (wd ws wt : Reg) (s : State) : Result := opMulrQ .h wd ws wt s

/-- `mulr_q.w` (R262). -/
def execMulrQW (wd ws wt : Reg) (s : State) : Result := opMulrQ .w wd ws wt s

/-- `madd_q.h` (R263). -/
def execMaddQH (wd ws wt : Reg) (s : State) : Result := opMaddQ .h wd ws wt s

/-- `madd_q.w` (R263). -/
def execMaddQW (wd ws wt : Reg) (s : State) : Result := opMaddQ .w wd ws wt s

/-- `maddr_q.h` (R264). -/
def execMaddrQH (wd ws wt : Reg) (s : State) : Result := opMaddrQ .h wd ws wt s

/-- `maddr_q.w` (R264). -/
def execMaddrQW (wd ws wt : Reg) (s : State) : Result := opMaddrQ .w wd ws wt s

/-- `msub_q.h` (R265). -/
def execMsubQH (wd ws wt : Reg) (s : State) : Result := opMsubQ .h wd ws wt s

/-- `msub_q.w` (R265). -/
def execMsubQW (wd ws wt : Reg) (s : State) : Result := opMsubQ .w wd ws wt s

/-- `msubr_q.h` (R266). -/
def execMsubrQH (wd ws wt : Reg) (s : State) : Result := opMsubrQ .h wd ws wt s

/-- `msubr_q.w` (R266). -/
def execMsubrQW (wd ws wt : Reg) (s : State) : Result := opMsubrQ .w wd ws wt s

end Sys2Proof.Machine
end

