-- ==== Sys2Proof/Machine/Logic.lean ====
section
/-! DEFINITION. Whole-register logic, bit move and bit select (45 R298 to R312). The `i8` forms act on the 16
byte lanes: `d` is the byte of `wd` as it was, `a` the byte of `ws`. -/

namespace Sys2Proof.Machine

/-- `and.v` (R299). -/
def opAnd (wd ws wt : Reg) (s : State) : Result :=
  whole wd (s.rd ws &&& s.rd wt) s

/-- `or.v` (R300). -/
def opOr (wd ws wt : Reg) (s : State) : Result :=
  whole wd (s.rd ws ||| s.rd wt) s

/-- `nor.v` (R301). -/
def opNor (wd ws wt : Reg) (s : State) : Result :=
  whole wd (~~~(s.rd ws ||| s.rd wt)) s

/-- `xor.v` (R302). -/
def opXor (wd ws wt : Reg) (s : State) : Result :=
  whole wd (s.rd ws ^^^ s.rd wt) s

/-- `andi.b` (R303). -/
def opAndi (wd ws : Reg) (i8 : Nat) (s : State) : Result :=
  withImmediate (i8Ok i8) (lanewise2 .b wd ws (fun _ a => zext (a &&& i8Byte i8)) s)

/-- `ori.b` (R304). -/
def opOri (wd ws : Reg) (i8 : Nat) (s : State) : Result :=
  withImmediate (i8Ok i8) (lanewise2 .b wd ws (fun _ a => zext (a ||| i8Byte i8)) s)

/-- `nori.b` (R305). -/
def opNori (wd ws : Reg) (i8 : Nat) (s : State) : Result :=
  withImmediate (i8Ok i8) (lanewise2 .b wd ws (fun _ a => zext (~~~(a ||| i8Byte i8))) s)

/-- `xori.b` (R306). -/
def opXori (wd ws : Reg) (i8 : Nat) (s : State) : Result :=
  withImmediate (i8Ok i8) (lanewise2 .b wd ws (fun _ a => zext (a ^^^ i8Byte i8)) s)

/-- `bmnz.v` (R307). -/
def opBmnz (wd ws wt : Reg) (s : State) : Result :=
  whole wd ((s.rd ws &&& s.rd wt) ||| (s.rd wd &&& ~~~s.rd wt)) s

/-- `bmz.v` (R308). -/
def opBmz (wd ws wt : Reg) (s : State) : Result :=
  whole wd ((s.rd ws &&& ~~~s.rd wt) ||| (s.rd wd &&& s.rd wt)) s

/-- `bsel.v` (R309). -/
def opBsel (wd ws wt : Reg) (s : State) : Result :=
  whole wd ((s.rd ws &&& ~~~s.rd wd) ||| (s.rd wt &&& s.rd wd)) s

/-- `bmnzi.b` (R310). -/
def opBmnzi (wd ws : Reg) (i8 : Nat) (s : State) : Result :=
  withImmediate (i8Ok i8) (lanewise2 .b wd ws (fun d a => zext ((a &&& i8Byte i8) ||| (d &&& ~~~i8Byte i8))) s)

/-- `bmzi.b` (R311). -/
def opBmzi (wd ws : Reg) (i8 : Nat) (s : State) : Result :=
  withImmediate (i8Ok i8) (lanewise2 .b wd ws (fun d a => zext ((a &&& ~~~i8Byte i8) ||| (d &&& i8Byte i8))) s)

/-- `bseli.b` (R312). -/
def opBseli (wd ws : Reg) (i8 : Nat) (s : State) : Result :=
  withImmediate (i8Ok i8) (lanewise2 .b wd ws (fun d a => zext ((a &&& ~~~d) ||| (i8Byte i8 &&& d))) s)

/-! ## The meaning of each row -/

/-- `and.v` (R299). -/
def execAndV (wd ws wt : Reg) (s : State) : Result := opAnd wd ws wt s

/-- `or.v` (R300). -/
def execOrV (wd ws wt : Reg) (s : State) : Result := opOr wd ws wt s

/-- `nor.v` (R301). -/
def execNorV (wd ws wt : Reg) (s : State) : Result := opNor wd ws wt s

/-- `xor.v` (R302). -/
def execXorV (wd ws wt : Reg) (s : State) : Result := opXor wd ws wt s

/-- `andi.b` (R303). -/
def execAndiB (wd ws : Reg) (i8 : Nat) (s : State) : Result := opAndi wd ws i8 s

/-- `ori.b` (R304). -/
def execOriB (wd ws : Reg) (i8 : Nat) (s : State) : Result := opOri wd ws i8 s

/-- `nori.b` (R305). -/
def execNoriB (wd ws : Reg) (i8 : Nat) (s : State) : Result := opNori wd ws i8 s

/-- `xori.b` (R306). -/
def execXoriB (wd ws : Reg) (i8 : Nat) (s : State) : Result := opXori wd ws i8 s

/-- `bmnz.v` (R307). -/
def execBmnzV (wd ws wt : Reg) (s : State) : Result := opBmnz wd ws wt s

/-- `bmz.v` (R308). -/
def execBmzV (wd ws wt : Reg) (s : State) : Result := opBmz wd ws wt s

/-- `bsel.v` (R309). -/
def execBselV (wd ws wt : Reg) (s : State) : Result := opBsel wd ws wt s

/-- `bmnzi.b` (R310). -/
def execBmnziB (wd ws : Reg) (i8 : Nat) (s : State) : Result := opBmnzi wd ws i8 s

/-- `bmzi.b` (R311). -/
def execBmziB (wd ws : Reg) (i8 : Nat) (s : State) : Result := opBmzi wd ws i8 s

/-- `bseli.b` (R312). -/
def execBseliB (wd ws : Reg) (i8 : Nat) (s : State) : Result := opBseli wd ws i8 s

end Sys2Proof.Machine
end

