-- ==== Sys2Proof/Machine/MinMax.lean ====
section
/-! DEFINITION. Minimum, maximum and compare-to-mask (42 R200 to R221). `a` is the lane of `ws`; `b` the lane of
`wt`, or the immediate taken as an integer and not truncated to the lane (R200). -/

namespace Sys2Proof.Machine

/-- The operand a magnitude tie returns (42 R201, R202; 00_scope R12). -/
def tie (t : MagTie) (a b : Int) : Int :=
  match t with
  | .first => a
  | .second => b

/-- The operand of greater magnitude (R201). -/
def maxMag (t : MagTie) (a b : Int) : Int :=
  if mag b < mag a then a else if mag a < mag b then b else tie t a b

/-- The operand of smaller magnitude (R202). -/
def minMag (t : MagTie) (a b : Int) : Int :=
  if mag a < mag b then a else if mag b < mag a then b else tie t a b

/-- `max_a` (R201). -/
def opMaxA (df : Fmt) (wd ws wt : Reg) (s : State) : Result :=
  lanewise3 df wd ws wt (fun _ a b => maxMag s.params.magTie (sext a) (sext b)) s

/-- `min_a` (R202). -/
def opMinA (df : Fmt) (wd ws wt : Reg) (s : State) : Result :=
  lanewise3 df wd ws wt (fun _ a b => minMag s.params.magTie (sext a) (sext b)) s

/-- `max_s` (R203). -/
def opMaxS (df : Fmt) (wd ws wt : Reg) (s : State) : Result :=
  lanewise3 df wd ws wt (fun _ a b => max (sext a) (sext b)) s

/-- `max_u` (R204). -/
def opMaxU (df : Fmt) (wd ws wt : Reg) (s : State) : Result :=
  lanewise3 df wd ws wt (fun _ a b => max (zext a) (zext b)) s

/-- `min_s` (R205). -/
def opMinS (df : Fmt) (wd ws wt : Reg) (s : State) : Result :=
  lanewise3 df wd ws wt (fun _ a b => min (sext a) (sext b)) s

/-- `min_u` (R206). -/
def opMinU (df : Fmt) (wd ws wt : Reg) (s : State) : Result :=
  lanewise3 df wd ws wt (fun _ a b => min (zext a) (zext b)) s

/-- `maxi_s` (R207). -/
def opMaxiS (df : Fmt) (wd ws : Reg) (s5 : Int) (s : State) : Result :=
  withImmediate (s5Ok s5) (lanewise2 df wd ws (fun _ a => max (sext a) s5) s)

/-- `maxi_u` (R208). -/
def opMaxiU (df : Fmt) (wd ws : Reg) (u5 : Nat) (s : State) : Result :=
  withImmediate (u5Ok u5) (lanewise2 df wd ws (fun _ a => max (zext a) u5) s)

/-- `mini_s` (R209). -/
def opMiniS (df : Fmt) (wd ws : Reg) (s5 : Int) (s : State) : Result :=
  withImmediate (s5Ok s5) (lanewise2 df wd ws (fun _ a => min (sext a) s5) s)

/-- `mini_u` (R210). -/
def opMiniU (df : Fmt) (wd ws : Reg) (u5 : Nat) (s : State) : Result :=
  withImmediate (u5Ok u5) (lanewise2 df wd ws (fun _ a => min (zext a) u5) s)

/-- `ceq` (R212). -/
def opCeq (df : Fmt) (wd ws wt : Reg) (s : State) : Result :=
  lanewise3 df wd ws wt (fun _ a b => mask (sext a = sext b)) s

/-- `ceqi` (R213). -/
def opCeqi (df : Fmt) (wd ws : Reg) (s5 : Int) (s : State) : Result :=
  withImmediate (s5Ok s5) (lanewise2 df wd ws (fun _ a => mask (sext a = s5)) s)

/-- `clt_s` (R214). -/
def opCltS (df : Fmt) (wd ws wt : Reg) (s : State) : Result :=
  lanewise3 df wd ws wt (fun _ a b => mask (sext a < sext b)) s

/-- `clt_u` (R215). -/
def opCltU (df : Fmt) (wd ws wt : Reg) (s : State) : Result :=
  lanewise3 df wd ws wt (fun _ a b => mask (zext a < zext b)) s

/-- `clti_s` (R216). -/
def opCltiS (df : Fmt) (wd ws : Reg) (s5 : Int) (s : State) : Result :=
  withImmediate (s5Ok s5) (lanewise2 df wd ws (fun _ a => mask (sext a < s5)) s)

/-- `clti_u` (R217). -/
def opCltiU (df : Fmt) (wd ws : Reg) (u5 : Nat) (s : State) : Result :=
  withImmediate (u5Ok u5) (lanewise2 df wd ws (fun _ a => mask (zext a < u5)) s)

/-- `cle_s` (R218). -/
def opCleS (df : Fmt) (wd ws wt : Reg) (s : State) : Result :=
  lanewise3 df wd ws wt (fun _ a b => mask (sext a ≤ sext b)) s

/-- `cle_u` (R219). -/
def opCleU (df : Fmt) (wd ws wt : Reg) (s : State) : Result :=
  lanewise3 df wd ws wt (fun _ a b => mask (zext a ≤ zext b)) s

/-- `clei_s` (R220). -/
def opCleiS (df : Fmt) (wd ws : Reg) (s5 : Int) (s : State) : Result :=
  withImmediate (s5Ok s5) (lanewise2 df wd ws (fun _ a => mask (sext a ≤ s5)) s)

/-- `clei_u` (R221). -/
def opCleiU (df : Fmt) (wd ws : Reg) (u5 : Nat) (s : State) : Result :=
  withImmediate (u5Ok u5) (lanewise2 df wd ws (fun _ a => mask (zext a ≤ u5)) s)

/-! ## The meaning of each row -/

/-- `max_a.b` (R201). -/
def execMaxAB (wd ws wt : Reg) (s : State) : Result := opMaxA .b wd ws wt s

/-- `max_a.h` (R201). -/
def execMaxAH (wd ws wt : Reg) (s : State) : Result := opMaxA .h wd ws wt s

/-- `max_a.w` (R201). -/
def execMaxAW (wd ws wt : Reg) (s : State) : Result := opMaxA .w wd ws wt s

/-- `max_a.d` (R201). -/
def execMaxAD (wd ws wt : Reg) (s : State) : Result := opMaxA .d wd ws wt s

/-- `min_a.b` (R202). -/
def execMinAB (wd ws wt : Reg) (s : State) : Result := opMinA .b wd ws wt s

/-- `min_a.h` (R202). -/
def execMinAH (wd ws wt : Reg) (s : State) : Result := opMinA .h wd ws wt s

/-- `min_a.w` (R202). -/
def execMinAW (wd ws wt : Reg) (s : State) : Result := opMinA .w wd ws wt s

/-- `min_a.d` (R202). -/
def execMinAD (wd ws wt : Reg) (s : State) : Result := opMinA .d wd ws wt s

/-- `max_s.b` (R203). -/
def execMaxSB (wd ws wt : Reg) (s : State) : Result := opMaxS .b wd ws wt s

/-- `max_s.h` (R203). -/
def execMaxSH (wd ws wt : Reg) (s : State) : Result := opMaxS .h wd ws wt s

/-- `max_s.w` (R203). -/
def execMaxSW (wd ws wt : Reg) (s : State) : Result := opMaxS .w wd ws wt s

/-- `max_s.d` (R203). -/
def execMaxSD (wd ws wt : Reg) (s : State) : Result := opMaxS .d wd ws wt s

/-- `max_u.b` (R204). -/
def execMaxUB (wd ws wt : Reg) (s : State) : Result := opMaxU .b wd ws wt s

/-- `max_u.h` (R204). -/
def execMaxUH (wd ws wt : Reg) (s : State) : Result := opMaxU .h wd ws wt s

/-- `max_u.w` (R204). -/
def execMaxUW (wd ws wt : Reg) (s : State) : Result := opMaxU .w wd ws wt s

/-- `max_u.d` (R204). -/
def execMaxUD (wd ws wt : Reg) (s : State) : Result := opMaxU .d wd ws wt s

/-- `min_s.b` (R205). -/
def execMinSB (wd ws wt : Reg) (s : State) : Result := opMinS .b wd ws wt s

/-- `min_s.h` (R205). -/
def execMinSH (wd ws wt : Reg) (s : State) : Result := opMinS .h wd ws wt s

/-- `min_s.w` (R205). -/
def execMinSW (wd ws wt : Reg) (s : State) : Result := opMinS .w wd ws wt s

/-- `min_s.d` (R205). -/
def execMinSD (wd ws wt : Reg) (s : State) : Result := opMinS .d wd ws wt s

/-- `min_u.b` (R206). -/
def execMinUB (wd ws wt : Reg) (s : State) : Result := opMinU .b wd ws wt s

/-- `min_u.h` (R206). -/
def execMinUH (wd ws wt : Reg) (s : State) : Result := opMinU .h wd ws wt s

/-- `min_u.w` (R206). -/
def execMinUW (wd ws wt : Reg) (s : State) : Result := opMinU .w wd ws wt s

/-- `min_u.d` (R206). -/
def execMinUD (wd ws wt : Reg) (s : State) : Result := opMinU .d wd ws wt s

/-- `maxi_s.b` (R207). -/
def execMaxiSB (wd ws : Reg) (s5 : Int) (s : State) : Result := opMaxiS .b wd ws s5 s

/-- `maxi_s.h` (R207). -/
def execMaxiSH (wd ws : Reg) (s5 : Int) (s : State) : Result := opMaxiS .h wd ws s5 s

/-- `maxi_s.w` (R207). -/
def execMaxiSW (wd ws : Reg) (s5 : Int) (s : State) : Result := opMaxiS .w wd ws s5 s

/-- `maxi_s.d` (R207). -/
def execMaxiSD (wd ws : Reg) (s5 : Int) (s : State) : Result := opMaxiS .d wd ws s5 s

/-- `maxi_u.b` (R208). -/
def execMaxiUB (wd ws : Reg) (u5 : Nat) (s : State) : Result := opMaxiU .b wd ws u5 s

/-- `maxi_u.h` (R208). -/
def execMaxiUH (wd ws : Reg) (u5 : Nat) (s : State) : Result := opMaxiU .h wd ws u5 s

/-- `maxi_u.w` (R208). -/
def execMaxiUW (wd ws : Reg) (u5 : Nat) (s : State) : Result := opMaxiU .w wd ws u5 s

/-- `maxi_u.d` (R208). -/
def execMaxiUD (wd ws : Reg) (u5 : Nat) (s : State) : Result := opMaxiU .d wd ws u5 s

/-- `mini_s.b` (R209). -/
def execMiniSB (wd ws : Reg) (s5 : Int) (s : State) : Result := opMiniS .b wd ws s5 s

/-- `mini_s.h` (R209). -/
def execMiniSH (wd ws : Reg) (s5 : Int) (s : State) : Result := opMiniS .h wd ws s5 s

/-- `mini_s.w` (R209). -/
def execMiniSW (wd ws : Reg) (s5 : Int) (s : State) : Result := opMiniS .w wd ws s5 s

/-- `mini_s.d` (R209). -/
def execMiniSD (wd ws : Reg) (s5 : Int) (s : State) : Result := opMiniS .d wd ws s5 s

/-- `mini_u.b` (R210). -/
def execMiniUB (wd ws : Reg) (u5 : Nat) (s : State) : Result := opMiniU .b wd ws u5 s

/-- `mini_u.h` (R210). -/
def execMiniUH (wd ws : Reg) (u5 : Nat) (s : State) : Result := opMiniU .h wd ws u5 s

/-- `mini_u.w` (R210). -/
def execMiniUW (wd ws : Reg) (u5 : Nat) (s : State) : Result := opMiniU .w wd ws u5 s

/-- `mini_u.d` (R210). -/
def execMiniUD (wd ws : Reg) (u5 : Nat) (s : State) : Result := opMiniU .d wd ws u5 s

/-- `ceq.b` (R212). -/
def execCeqB (wd ws wt : Reg) (s : State) : Result := opCeq .b wd ws wt s

/-- `ceq.h` (R212). -/
def execCeqH (wd ws wt : Reg) (s : State) : Result := opCeq .h wd ws wt s

/-- `ceq.w` (R212). -/
def execCeqW (wd ws wt : Reg) (s : State) : Result := opCeq .w wd ws wt s

/-- `ceq.d` (R212). -/
def execCeqD (wd ws wt : Reg) (s : State) : Result := opCeq .d wd ws wt s

/-- `ceqi.b` (R213). -/
def execCeqiB (wd ws : Reg) (s5 : Int) (s : State) : Result := opCeqi .b wd ws s5 s

/-- `ceqi.h` (R213). -/
def execCeqiH (wd ws : Reg) (s5 : Int) (s : State) : Result := opCeqi .h wd ws s5 s

/-- `ceqi.w` (R213). -/
def execCeqiW (wd ws : Reg) (s5 : Int) (s : State) : Result := opCeqi .w wd ws s5 s

/-- `ceqi.d` (R213). -/
def execCeqiD (wd ws : Reg) (s5 : Int) (s : State) : Result := opCeqi .d wd ws s5 s

/-- `clt_s.b` (R214). -/
def execCltSB (wd ws wt : Reg) (s : State) : Result := opCltS .b wd ws wt s

/-- `clt_s.h` (R214). -/
def execCltSH (wd ws wt : Reg) (s : State) : Result := opCltS .h wd ws wt s

/-- `clt_s.w` (R214). -/
def execCltSW (wd ws wt : Reg) (s : State) : Result := opCltS .w wd ws wt s

/-- `clt_s.d` (R214). -/
def execCltSD (wd ws wt : Reg) (s : State) : Result := opCltS .d wd ws wt s

/-- `clt_u.b` (R215). -/
def execCltUB (wd ws wt : Reg) (s : State) : Result := opCltU .b wd ws wt s

/-- `clt_u.h` (R215). -/
def execCltUH (wd ws wt : Reg) (s : State) : Result := opCltU .h wd ws wt s

/-- `clt_u.w` (R215). -/
def execCltUW (wd ws wt : Reg) (s : State) : Result := opCltU .w wd ws wt s

/-- `clt_u.d` (R215). -/
def execCltUD (wd ws wt : Reg) (s : State) : Result := opCltU .d wd ws wt s

/-- `clti_s.b` (R216). -/
def execCltiSB (wd ws : Reg) (s5 : Int) (s : State) : Result := opCltiS .b wd ws s5 s

/-- `clti_s.h` (R216). -/
def execCltiSH (wd ws : Reg) (s5 : Int) (s : State) : Result := opCltiS .h wd ws s5 s

/-- `clti_s.w` (R216). -/
def execCltiSW (wd ws : Reg) (s5 : Int) (s : State) : Result := opCltiS .w wd ws s5 s

/-- `clti_s.d` (R216). -/
def execCltiSD (wd ws : Reg) (s5 : Int) (s : State) : Result := opCltiS .d wd ws s5 s

/-- `clti_u.b` (R217). -/
def execCltiUB (wd ws : Reg) (u5 : Nat) (s : State) : Result := opCltiU .b wd ws u5 s

/-- `clti_u.h` (R217). -/
def execCltiUH (wd ws : Reg) (u5 : Nat) (s : State) : Result := opCltiU .h wd ws u5 s

/-- `clti_u.w` (R217). -/
def execCltiUW (wd ws : Reg) (u5 : Nat) (s : State) : Result := opCltiU .w wd ws u5 s

/-- `clti_u.d` (R217). -/
def execCltiUD (wd ws : Reg) (u5 : Nat) (s : State) : Result := opCltiU .d wd ws u5 s

/-- `cle_s.b` (R218). -/
def execCleSB (wd ws wt : Reg) (s : State) : Result := opCleS .b wd ws wt s

/-- `cle_s.h` (R218). -/
def execCleSH (wd ws wt : Reg) (s : State) : Result := opCleS .h wd ws wt s

/-- `cle_s.w` (R218). -/
def execCleSW (wd ws wt : Reg) (s : State) : Result := opCleS .w wd ws wt s

/-- `cle_s.d` (R218). -/
def execCleSD (wd ws wt : Reg) (s : State) : Result := opCleS .d wd ws wt s

/-- `cle_u.b` (R219). -/
def execCleUB (wd ws wt : Reg) (s : State) : Result := opCleU .b wd ws wt s

/-- `cle_u.h` (R219). -/
def execCleUH (wd ws wt : Reg) (s : State) : Result := opCleU .h wd ws wt s

/-- `cle_u.w` (R219). -/
def execCleUW (wd ws wt : Reg) (s : State) : Result := opCleU .w wd ws wt s

/-- `cle_u.d` (R219). -/
def execCleUD (wd ws wt : Reg) (s : State) : Result := opCleU .d wd ws wt s

/-- `clei_s.b` (R220). -/
def execCleiSB (wd ws : Reg) (s5 : Int) (s : State) : Result := opCleiS .b wd ws s5 s

/-- `clei_s.h` (R220). -/
def execCleiSH (wd ws : Reg) (s5 : Int) (s : State) : Result := opCleiS .h wd ws s5 s

/-- `clei_s.w` (R220). -/
def execCleiSW (wd ws : Reg) (s5 : Int) (s : State) : Result := opCleiS .w wd ws s5 s

/-- `clei_s.d` (R220). -/
def execCleiSD (wd ws : Reg) (s5 : Int) (s : State) : Result := opCleiS .d wd ws s5 s

/-- `clei_u.b` (R221). -/
def execCleiUB (wd ws : Reg) (u5 : Nat) (s : State) : Result := opCleiU .b wd ws u5 s

/-- `clei_u.h` (R221). -/
def execCleiUH (wd ws : Reg) (u5 : Nat) (s : State) : Result := opCleiU .h wd ws u5 s

/-- `clei_u.w` (R221). -/
def execCleiUW (wd ws : Reg) (u5 : Nat) (s : State) : Result := opCleiU .w wd ws u5 s

/-- `clei_u.d` (R221). -/
def execCleiUD (wd ws : Reg) (u5 : Nat) (s : State) : Result := opCleiU .d wd ws u5 s

end Sys2Proof.Machine
end

