-- ==== Sys2Proof/Machine/MulDiv.lean ====
section
/-! DEFINITION. Horizontal and dot-product operations, multiply, divide (43 R230 to R249). `d` is the lane of
`wd` as it was, `a` the lane of `ws`, `b` the lane of `wt`. -/

namespace Sys2Proof.Machine

/-- `div_s` of two lanes (R246). -/
def divS (n : Nat) (a b : Int) : Int :=
  if a = minInt n ∧ b = -1 then minInt n else if b = 0 then 0 else a.tdiv b

/-- `mod_s` of two lanes (R248): `trem(a, b) = a - b * tdiv(a, b)` (00_scope R16). -/
def modS (n : Nat) (a b : Int) : Int :=
  if a = minInt n ∧ b = -1 then 0 else if b = 0 then 0 else a - b * a.tdiv b

/-- `div_u` of two lanes (R247). -/
def divU (a b : Int) : Int := if b = 0 then 0 else a / b

/-- `mod_u` of two lanes (R249). -/
def modU (a b : Int) : Int := if b = 0 then 0 else a % b

/-- The signed dot product of two lanes' sub-lanes (R237). -/
def dotS {df : Fmt} (a b : Lane df) : Int := evenS a * evenS b + oddS a * oddS b

/-- The unsigned dot product of two lanes' sub-lanes (R238). -/
def dotU {df : Fmt} (a b : Lane df) : Int := evenU a * evenU b + oddU a * oddU b

/-- `hadd_s` (R233). -/
def opHaddS (df : Fmt) (wd ws wt : Reg) (s : State) : Result :=
  lanewise3 df wd ws wt (fun _ a b => oddS a + evenS b) s

/-- `hadd_u` (R234). -/
def opHaddU (df : Fmt) (wd ws wt : Reg) (s : State) : Result :=
  lanewise3 df wd ws wt (fun _ a b => oddU a + evenU b) s

/-- `hsub_s` (R235). -/
def opHsubS (df : Fmt) (wd ws wt : Reg) (s : State) : Result :=
  lanewise3 df wd ws wt (fun _ a b => oddS a - evenS b) s

/-- `hsub_u` (R236). -/
def opHsubU (df : Fmt) (wd ws wt : Reg) (s : State) : Result :=
  lanewise3 df wd ws wt (fun _ a b => oddU a - evenU b) s

/-- `dotp_s` (R237). -/
def opDotpS (df : Fmt) (wd ws wt : Reg) (s : State) : Result :=
  lanewise3 df wd ws wt (fun _ a b => dotS a b) s

/-- `dotp_u` (R238). -/
def opDotpU (df : Fmt) (wd ws wt : Reg) (s : State) : Result :=
  lanewise3 df wd ws wt (fun _ a b => dotU a b) s

/-- `dpadd_s` (R239). -/
def opDpaddS (df : Fmt) (wd ws wt : Reg) (s : State) : Result :=
  lanewise3 df wd ws wt (fun d a b => sext d + dotS a b) s

/-- `dpadd_u` (R240). -/
def opDpaddU (df : Fmt) (wd ws wt : Reg) (s : State) : Result :=
  lanewise3 df wd ws wt (fun d a b => zext d + dotU a b) s

/-- `dpsub_s` (R241). -/
def opDpsubS (df : Fmt) (wd ws wt : Reg) (s : State) : Result :=
  lanewise3 df wd ws wt (fun d a b => sext d - dotS a b) s

/-- `dpsub_u` (R242). -/
def opDpsubU (df : Fmt) (wd ws wt : Reg) (s : State) : Result :=
  lanewise3 df wd ws wt (fun d a b => zext d - dotU a b) s

/-- `mulv` (R243). -/
def opMulv (df : Fmt) (wd ws wt : Reg) (s : State) : Result :=
  lanewise3 df wd ws wt (fun _ a b => sext a * sext b) s

/-- `maddv` (R244). -/
def opMaddv (df : Fmt) (wd ws wt : Reg) (s : State) : Result :=
  lanewise3 df wd ws wt (fun d a b => sext d + sext a * sext b) s

/-- `msubv` (R245). -/
def opMsubv (df : Fmt) (wd ws wt : Reg) (s : State) : Result :=
  lanewise3 df wd ws wt (fun d a b => sext d - sext a * sext b) s

/-- `div_s` (R246). -/
def opDivS (df : Fmt) (wd ws wt : Reg) (s : State) : Result :=
  lanewise3 df wd ws wt (fun _ a b => divS (laneBits df) (sext a) (sext b)) s

/-- `div_u` (R247). -/
def opDivU (df : Fmt) (wd ws wt : Reg) (s : State) : Result :=
  lanewise3 df wd ws wt (fun _ a b => divU (zext a) (zext b)) s

/-- `mod_s` (R248). -/
def opModS (df : Fmt) (wd ws wt : Reg) (s : State) : Result :=
  lanewise3 df wd ws wt (fun _ a b => modS (laneBits df) (sext a) (sext b)) s

/-- `mod_u` (R249). -/
def opModU (df : Fmt) (wd ws wt : Reg) (s : State) : Result :=
  lanewise3 df wd ws wt (fun _ a b => modU (zext a) (zext b)) s

/-! ## The meaning of each row -/

/-- `hadd_s.h` (R233). -/
def execHaddSH (wd ws wt : Reg) (s : State) : Result := opHaddS .h wd ws wt s

/-- `hadd_s.w` (R233). -/
def execHaddSW (wd ws wt : Reg) (s : State) : Result := opHaddS .w wd ws wt s

/-- `hadd_s.d` (R233). -/
def execHaddSD (wd ws wt : Reg) (s : State) : Result := opHaddS .d wd ws wt s

/-- `hadd_u.h` (R234). -/
def execHaddUH (wd ws wt : Reg) (s : State) : Result := opHaddU .h wd ws wt s

/-- `hadd_u.w` (R234). -/
def execHaddUW (wd ws wt : Reg) (s : State) : Result := opHaddU .w wd ws wt s

/-- `hadd_u.d` (R234). -/
def execHaddUD (wd ws wt : Reg) (s : State) : Result := opHaddU .d wd ws wt s

/-- `hsub_s.h` (R235). -/
def execHsubSH (wd ws wt : Reg) (s : State) : Result := opHsubS .h wd ws wt s

/-- `hsub_s.w` (R235). -/
def execHsubSW (wd ws wt : Reg) (s : State) : Result := opHsubS .w wd ws wt s

/-- `hsub_s.d` (R235). -/
def execHsubSD (wd ws wt : Reg) (s : State) : Result := opHsubS .d wd ws wt s

/-- `hsub_u.h` (R236). -/
def execHsubUH (wd ws wt : Reg) (s : State) : Result := opHsubU .h wd ws wt s

/-- `hsub_u.w` (R236). -/
def execHsubUW (wd ws wt : Reg) (s : State) : Result := opHsubU .w wd ws wt s

/-- `hsub_u.d` (R236). -/
def execHsubUD (wd ws wt : Reg) (s : State) : Result := opHsubU .d wd ws wt s

/-- `dotp_s.h` (R237). -/
def execDotpSH (wd ws wt : Reg) (s : State) : Result := opDotpS .h wd ws wt s

/-- `dotp_s.w` (R237). -/
def execDotpSW (wd ws wt : Reg) (s : State) : Result := opDotpS .w wd ws wt s

/-- `dotp_s.d` (R237). -/
def execDotpSD (wd ws wt : Reg) (s : State) : Result := opDotpS .d wd ws wt s

/-- `dotp_u.h` (R238). -/
def execDotpUH (wd ws wt : Reg) (s : State) : Result := opDotpU .h wd ws wt s

/-- `dotp_u.w` (R238). -/
def execDotpUW (wd ws wt : Reg) (s : State) : Result := opDotpU .w wd ws wt s

/-- `dotp_u.d` (R238). -/
def execDotpUD (wd ws wt : Reg) (s : State) : Result := opDotpU .d wd ws wt s

/-- `dpadd_s.h` (R239). -/
def execDpaddSH (wd ws wt : Reg) (s : State) : Result := opDpaddS .h wd ws wt s

/-- `dpadd_s.w` (R239). -/
def execDpaddSW (wd ws wt : Reg) (s : State) : Result := opDpaddS .w wd ws wt s

/-- `dpadd_s.d` (R239). -/
def execDpaddSD (wd ws wt : Reg) (s : State) : Result := opDpaddS .d wd ws wt s

/-- `dpadd_u.h` (R240). -/
def execDpaddUH (wd ws wt : Reg) (s : State) : Result := opDpaddU .h wd ws wt s

/-- `dpadd_u.w` (R240). -/
def execDpaddUW (wd ws wt : Reg) (s : State) : Result := opDpaddU .w wd ws wt s

/-- `dpadd_u.d` (R240). -/
def execDpaddUD (wd ws wt : Reg) (s : State) : Result := opDpaddU .d wd ws wt s

/-- `dpsub_s.h` (R241). -/
def execDpsubSH (wd ws wt : Reg) (s : State) : Result := opDpsubS .h wd ws wt s

/-- `dpsub_s.w` (R241). -/
def execDpsubSW (wd ws wt : Reg) (s : State) : Result := opDpsubS .w wd ws wt s

/-- `dpsub_s.d` (R241). -/
def execDpsubSD (wd ws wt : Reg) (s : State) : Result := opDpsubS .d wd ws wt s

/-- `dpsub_u.h` (R242). -/
def execDpsubUH (wd ws wt : Reg) (s : State) : Result := opDpsubU .h wd ws wt s

/-- `dpsub_u.w` (R242). -/
def execDpsubUW (wd ws wt : Reg) (s : State) : Result := opDpsubU .w wd ws wt s

/-- `dpsub_u.d` (R242). -/
def execDpsubUD (wd ws wt : Reg) (s : State) : Result := opDpsubU .d wd ws wt s

/-- `mulv.b` (R243). -/
def execMulvB (wd ws wt : Reg) (s : State) : Result := opMulv .b wd ws wt s

/-- `mulv.h` (R243). -/
def execMulvH (wd ws wt : Reg) (s : State) : Result := opMulv .h wd ws wt s

/-- `mulv.w` (R243). -/
def execMulvW (wd ws wt : Reg) (s : State) : Result := opMulv .w wd ws wt s

/-- `mulv.d` (R243). -/
def execMulvD (wd ws wt : Reg) (s : State) : Result := opMulv .d wd ws wt s

/-- `maddv.b` (R244). -/
def execMaddvB (wd ws wt : Reg) (s : State) : Result := opMaddv .b wd ws wt s

/-- `maddv.h` (R244). -/
def execMaddvH (wd ws wt : Reg) (s : State) : Result := opMaddv .h wd ws wt s

/-- `maddv.w` (R244). -/
def execMaddvW (wd ws wt : Reg) (s : State) : Result := opMaddv .w wd ws wt s

/-- `maddv.d` (R244). -/
def execMaddvD (wd ws wt : Reg) (s : State) : Result := opMaddv .d wd ws wt s

/-- `msubv.b` (R245). -/
def execMsubvB (wd ws wt : Reg) (s : State) : Result := opMsubv .b wd ws wt s

/-- `msubv.h` (R245). -/
def execMsubvH (wd ws wt : Reg) (s : State) : Result := opMsubv .h wd ws wt s

/-- `msubv.w` (R245). -/
def execMsubvW (wd ws wt : Reg) (s : State) : Result := opMsubv .w wd ws wt s

/-- `msubv.d` (R245). -/
def execMsubvD (wd ws wt : Reg) (s : State) : Result := opMsubv .d wd ws wt s

/-- `div_s.b` (R246). -/
def execDivSB (wd ws wt : Reg) (s : State) : Result := opDivS .b wd ws wt s

/-- `div_s.h` (R246). -/
def execDivSH (wd ws wt : Reg) (s : State) : Result := opDivS .h wd ws wt s

/-- `div_s.w` (R246). -/
def execDivSW (wd ws wt : Reg) (s : State) : Result := opDivS .w wd ws wt s

/-- `div_s.d` (R246). -/
def execDivSD (wd ws wt : Reg) (s : State) : Result := opDivS .d wd ws wt s

/-- `div_u.b` (R247). -/
def execDivUB (wd ws wt : Reg) (s : State) : Result := opDivU .b wd ws wt s

/-- `div_u.h` (R247). -/
def execDivUH (wd ws wt : Reg) (s : State) : Result := opDivU .h wd ws wt s

/-- `div_u.w` (R247). -/
def execDivUW (wd ws wt : Reg) (s : State) : Result := opDivU .w wd ws wt s

/-- `div_u.d` (R247). -/
def execDivUD (wd ws wt : Reg) (s : State) : Result := opDivU .d wd ws wt s

/-- `mod_s.b` (R248). -/
def execModSB (wd ws wt : Reg) (s : State) : Result := opModS .b wd ws wt s

/-- `mod_s.h` (R248). -/
def execModSH (wd ws wt : Reg) (s : State) : Result := opModS .h wd ws wt s

/-- `mod_s.w` (R248). -/
def execModSW (wd ws wt : Reg) (s : State) : Result := opModS .w wd ws wt s

/-- `mod_s.d` (R248). -/
def execModSD (wd ws wt : Reg) (s : State) : Result := opModS .d wd ws wt s

/-- `mod_u.b` (R249). -/
def execModUB (wd ws wt : Reg) (s : State) : Result := opModU .b wd ws wt s

/-- `mod_u.h` (R249). -/
def execModUH (wd ws wt : Reg) (s : State) : Result := opModU .h wd ws wt s

/-- `mod_u.w` (R249). -/
def execModUW (wd ws wt : Reg) (s : State) : Result := opModU .w wd ws wt s

/-- `mod_u.d` (R249). -/
def execModUD (wd ws wt : Reg) (s : State) : Result := opModU .d wd ws wt s

end Sys2Proof.Machine
end

