-- ==== Sys2Proof/Machine/Permute.lean ====
section
/-! DEFINITION. Interleave, pack, shuffle, slide, splat and load-immediate (47 R340 to R353). `S`, `T`, `D` are the
values of `ws`, `wt`, `wd` before the operation; `n` is the lane count and `h` half of it (R340). A staged
operation is given as the list of its writes into the staging register, in the rule's order. -/

namespace Sys2Proof.Machine

/-- The writes of an interleave: for each `i` below `h`, lane `2i` from `T` and lane `2i+1` from `S`, both at
the source lane `src i` (R341 to R344). -/
def interleave (df : Fmt) (S T : Vec) (src : Nat → Nat) : List (Nat × Lane df) :=
  (List.range (laneCount df / 2)).flatMap fun i =>
    [(2 * i, lane T df (src i)), (2 * i + 1, lane S df (src i))]

/-- The writes of a pack: for each `i` below `h`, lane `i` from `T` and lane `h + i` from `S`, both at the
source lane `src i` (R345, R346). -/
def pack (df : Fmt) (S T : Vec) (src : Nat → Nat) : List (Nat × Lane df) :=
  (List.range (laneCount df / 2)).flatMap fun i =>
    [(i, lane T df (src i)), (laneCount df / 2 + i, lane S df (src i))]

/-- The lane `vshf` selects with the selector lane `c`: zero when bits 7:6 are not zero, else lane
`c[5:0] mod 2n` of `T` followed by `S` (R347). -/
def vshfLane (df : Fmt) (S T : Vec) (c : Lane df) : Lane df :=
  if c.toNat / 64 % 4 ≠ 0 then 0
  else
    let k := c.toNat % 64 % (2 * laneCount df)
    if k < laneCount df then lane T df k else lane S df (k - laneCount df)

/-- The source lane of `shf` for result lane `i`: within its group of four, the lane that the 2-bit field
`2 * (i mod 4)` of `i8` names (R348). -/
def shfIndex (i8 i : Nat) : Nat := (i - i % 4) + i8 / 2 ^ (2 * (i % 4)) % 4

/-- The byte of a slide: byte `q` of a group's `S` bytes followed by its `D` bytes, for the group of `n` bytes
that starts at byte `base` (R349). -/
def slideByte (S D : Vec) (n base q : Nat) : Lane .b :=
  if q < n then lane S .b (base + q) else lane D .b (base + (q - n))

/-- The writes of a slide by `m` bytes: `16 / n` independent groups of `n` bytes (R349). -/
def slide (df : Fmt) (S D : Vec) (m : Nat) : List (Nat × Lane .b) :=
  (List.range (16 / laneCount df)).flatMap fun g =>
    (List.range (laneCount df)).map fun j =>
      (laneCount df * g + j, slideByte S D (laneCount df) (laneCount df * g) (j + m))

/-- `ilvev`: interleave the even lanes (R341). -/
def opIlvev (df : Fmt) (wd ws wt : Reg) (s : State) : Result :=
  staged df wd (interleave df (s.rd ws) (s.rd wt) fun i => 2 * i) s

/-- `ilvod`: interleave the odd lanes (R342). -/
def opIlvod (df : Fmt) (wd ws wt : Reg) (s : State) : Result :=
  staged df wd (interleave df (s.rd ws) (s.rd wt) fun i => 2 * i + 1) s

/-- `ilvl`: interleave the left (upper) halves (R343). -/
def opIlvl (df : Fmt) (wd ws wt : Reg) (s : State) : Result :=
  staged df wd (interleave df (s.rd ws) (s.rd wt) fun i => laneCount df / 2 + i) s

/-- `ilvr`: interleave the right (lower) halves (R344). -/
def opIlvr (df : Fmt) (wd ws wt : Reg) (s : State) : Result :=
  staged df wd (interleave df (s.rd ws) (s.rd wt) fun i => i) s

/-- `pckev`: pack the even lanes (R345). -/
def opPckev (df : Fmt) (wd ws wt : Reg) (s : State) : Result :=
  staged df wd (pack df (s.rd ws) (s.rd wt) fun i => 2 * i) s

/-- `pckod`: pack the odd lanes (R346). -/
def opPckod (df : Fmt) (wd ws wt : Reg) (s : State) : Result :=
  staged df wd (pack df (s.rd ws) (s.rd wt) fun i => 2 * i + 1) s

/-- `vshf`: the selector is the old `wd` (R347). -/
def opVshf (df : Fmt) (wd ws wt : Reg) (s : State) : Result :=
  staged df wd
    ((List.range (laneCount df)).map fun i => (i, vshfLane df (s.rd ws) (s.rd wt) (lane (s.rd wd) df i))) s

/-- `shf` (R348). -/
def opShf (df : Fmt) (wd ws : Reg) (i8 : Nat) (s : State) : Result :=
  withImmediate (i8Ok i8)
    (staged df wd ((List.range (laneCount df)).map fun i => (i, lane (s.rd ws) df (shfIndex i8 i))) s)

/-- `sld`: the amount is the scalar reduced modulo the lane count (R349). The GPR `rt` is read by the
dispatcher: its value is on `gpr_in`. -/
def opSld (df : Fmt) (wd ws : Reg) (_rt : Gpr) (s : State) : Result :=
  staged .b wd (slide df (s.rd ws) (s.rd wd) (scalarIndex s df)) s

/-- `sldi`: the amount is the immediate, checked and not reduced (R350). -/
def opSldi (df : Fmt) (wd ws : Reg) (n : Nat) (s : State) : Result :=
  checkIndex df n (staged .b wd (slide df (s.rd ws) (s.rd wd) n) s)

/-- `splat`: the lane the scalar selects (R351). The GPR `rt` is read by the dispatcher: its value is on
`gpr_in`. -/
def opSplat (df : Fmt) (wd ws : Reg) (_rt : Gpr) (s : State) : Result :=
  broadcast df wd (zext (lane (s.rd ws) df (scalarIndex s df))) s

/-- `splati`: the lane the immediate selects, checked (R352). -/
def opSplati (df : Fmt) (wd ws : Reg) (n : Nat) (s : State) : Result :=
  checkIndex df n (broadcast df wd (zext (lane (s.rd ws) df n)) s)

/-- `ldi` (R353). -/
def opLdi (df : Fmt) (wd : Reg) (s10 : Int) (s : State) : Result :=
  withImmediate (s10Ok s10) (broadcast df wd s10 s)

/-! ## The meaning of each row -/

/-- `ilvev.b` (R341). -/
def execIlvevB (wd ws wt : Reg) (s : State) : Result := opIlvev .b wd ws wt s

/-- `ilvev.h` (R341). -/
def execIlvevH (wd ws wt : Reg) (s : State) : Result := opIlvev .h wd ws wt s

/-- `ilvev.w` (R341). -/
def execIlvevW (wd ws wt : Reg) (s : State) : Result := opIlvev .w wd ws wt s

/-- `ilvev.d` (R341). -/
def execIlvevD (wd ws wt : Reg) (s : State) : Result := opIlvev .d wd ws wt s

/-- `ilvod.b` (R342). -/
def execIlvodB (wd ws wt : Reg) (s : State) : Result := opIlvod .b wd ws wt s

/-- `ilvod.h` (R342). -/
def execIlvodH (wd ws wt : Reg) (s : State) : Result := opIlvod .h wd ws wt s

/-- `ilvod.w` (R342). -/
def execIlvodW (wd ws wt : Reg) (s : State) : Result := opIlvod .w wd ws wt s

/-- `ilvod.d` (R342). -/
def execIlvodD (wd ws wt : Reg) (s : State) : Result := opIlvod .d wd ws wt s

/-- `ilvl.b` (R343). -/
def execIlvlB (wd ws wt : Reg) (s : State) : Result := opIlvl .b wd ws wt s

/-- `ilvl.h` (R343). -/
def execIlvlH (wd ws wt : Reg) (s : State) : Result := opIlvl .h wd ws wt s

/-- `ilvl.w` (R343). -/
def execIlvlW (wd ws wt : Reg) (s : State) : Result := opIlvl .w wd ws wt s

/-- `ilvl.d` (R343). -/
def execIlvlD (wd ws wt : Reg) (s : State) : Result := opIlvl .d wd ws wt s

/-- `ilvr.b` (R344). -/
def execIlvrB (wd ws wt : Reg) (s : State) : Result := opIlvr .b wd ws wt s

/-- `ilvr.h` (R344). -/
def execIlvrH (wd ws wt : Reg) (s : State) : Result := opIlvr .h wd ws wt s

/-- `ilvr.w` (R344). -/
def execIlvrW (wd ws wt : Reg) (s : State) : Result := opIlvr .w wd ws wt s

/-- `ilvr.d` (R344). -/
def execIlvrD (wd ws wt : Reg) (s : State) : Result := opIlvr .d wd ws wt s

/-- `pckev.b` (R345). -/
def execPckevB (wd ws wt : Reg) (s : State) : Result := opPckev .b wd ws wt s

/-- `pckev.h` (R345). -/
def execPckevH (wd ws wt : Reg) (s : State) : Result := opPckev .h wd ws wt s

/-- `pckev.w` (R345). -/
def execPckevW (wd ws wt : Reg) (s : State) : Result := opPckev .w wd ws wt s

/-- `pckev.d` (R345). -/
def execPckevD (wd ws wt : Reg) (s : State) : Result := opPckev .d wd ws wt s

/-- `pckod.b` (R346). -/
def execPckodB (wd ws wt : Reg) (s : State) : Result := opPckod .b wd ws wt s

/-- `pckod.h` (R346). -/
def execPckodH (wd ws wt : Reg) (s : State) : Result := opPckod .h wd ws wt s

/-- `pckod.w` (R346). -/
def execPckodW (wd ws wt : Reg) (s : State) : Result := opPckod .w wd ws wt s

/-- `pckod.d` (R346). -/
def execPckodD (wd ws wt : Reg) (s : State) : Result := opPckod .d wd ws wt s

/-- `vshf.b` (R347). -/
def execVshfB (wd ws wt : Reg) (s : State) : Result := opVshf .b wd ws wt s

/-- `vshf.h` (R347). -/
def execVshfH (wd ws wt : Reg) (s : State) : Result := opVshf .h wd ws wt s

/-- `vshf.w` (R347). -/
def execVshfW (wd ws wt : Reg) (s : State) : Result := opVshf .w wd ws wt s

/-- `vshf.d` (R347). -/
def execVshfD (wd ws wt : Reg) (s : State) : Result := opVshf .d wd ws wt s

/-- `shf.b` (R348). -/
def execShfB (wd ws : Reg) (i8 : Nat) (s : State) : Result := opShf .b wd ws i8 s

/-- `shf.h` (R348). -/
def execShfH (wd ws : Reg) (i8 : Nat) (s : State) : Result := opShf .h wd ws i8 s

/-- `shf.w` (R348). -/
def execShfW (wd ws : Reg) (i8 : Nat) (s : State) : Result := opShf .w wd ws i8 s

/-- `sld.b` (R349). -/
def execSldB (wd ws : Reg) (rt : Gpr) (s : State) : Result := opSld .b wd ws rt s

/-- `sld.h` (R349). -/
def execSldH (wd ws : Reg) (rt : Gpr) (s : State) : Result := opSld .h wd ws rt s

/-- `sld.w` (R349). -/
def execSldW (wd ws : Reg) (rt : Gpr) (s : State) : Result := opSld .w wd ws rt s

/-- `sld.d` (R349). -/
def execSldD (wd ws : Reg) (rt : Gpr) (s : State) : Result := opSld .d wd ws rt s

/-- `sldi.b` (R350). -/
def execSldiB (wd ws : Reg) (n : Nat) (s : State) : Result := opSldi .b wd ws n s

/-- `sldi.h` (R350). -/
def execSldiH (wd ws : Reg) (n : Nat) (s : State) : Result := opSldi .h wd ws n s

/-- `sldi.w` (R350). -/
def execSldiW (wd ws : Reg) (n : Nat) (s : State) : Result := opSldi .w wd ws n s

/-- `sldi.d` (R350). -/
def execSldiD (wd ws : Reg) (n : Nat) (s : State) : Result := opSldi .d wd ws n s

/-- `splat.b` (R351). -/
def execSplatB (wd ws : Reg) (rt : Gpr) (s : State) : Result := opSplat .b wd ws rt s

/-- `splat.h` (R351). -/
def execSplatH (wd ws : Reg) (rt : Gpr) (s : State) : Result := opSplat .h wd ws rt s

/-- `splat.w` (R351). -/
def execSplatW (wd ws : Reg) (rt : Gpr) (s : State) : Result := opSplat .w wd ws rt s

/-- `splat.d` (R351). -/
def execSplatD (wd ws : Reg) (rt : Gpr) (s : State) : Result := opSplat .d wd ws rt s

/-- `splati.b` (R352). -/
def execSplatiB (wd ws : Reg) (n : Nat) (s : State) : Result := opSplati .b wd ws n s

/-- `splati.h` (R352). -/
def execSplatiH (wd ws : Reg) (n : Nat) (s : State) : Result := opSplati .h wd ws n s

/-- `splati.w` (R352). -/
def execSplatiW (wd ws : Reg) (n : Nat) (s : State) : Result := opSplati .w wd ws n s

/-- `splati.d` (R352). -/
def execSplatiD (wd ws : Reg) (n : Nat) (s : State) : Result := opSplati .d wd ws n s

/-- `ldi.b` (R353). -/
def execLdiB (wd : Reg) (s10 : Int) (s : State) : Result := opLdi .b wd s10 s

/-- `ldi.h` (R353). -/
def execLdiH (wd : Reg) (s10 : Int) (s : State) : Result := opLdi .h wd s10 s

/-- `ldi.w` (R353). -/
def execLdiW (wd : Reg) (s10 : Int) (s : State) : Result := opLdi .w wd s10 s

/-- `ldi.d` (R353). -/
def execLdiD (wd : Reg) (s10 : Int) (s : State) : Result := opLdi .d wd s10 s

end Sys2Proof.Machine
end

