-- ==== Sys2Proof/Machine/Shift.lean ====
section
/-! DEFINITION. Shifts (46 R320 to R331). `a` is the lane of `ws`; a register form's amount is `bitPos b` of the
lane of `wt` (R320). -/

namespace Sys2Proof.Machine

/-- The rounded shift of a lane `a` whose reading is `v`: a shift by zero returns the operand, any other adds
the most significant of the bits shifted out (R321). -/
def shrRound {df : Fmt} (a : Lane df) (v : Int) (p : Nat) : Int :=
  if p = 0 then v else shr v p + bitAt a (p - 1)

/-- `sll` (R322). -/
def opSll (df : Fmt) (wd ws wt : Reg) (s : State) : Result :=
  lanewise3 df wd ws wt (fun _ a b => shl (zext a) (bitPos b)) s

/-- `slli` (R323). -/
def opSlli (df : Fmt) (wd ws : Reg) (m : Nat) (s : State) : Result :=
  withImmediate (mOk df m) (lanewise2 df wd ws (fun _ a => shl (zext a) m) s)

/-- `sra` (R324). -/
def opSra (df : Fmt) (wd ws wt : Reg) (s : State) : Result :=
  lanewise3 df wd ws wt (fun _ a b => shr (sext a) (bitPos b)) s

/-- `srai` (R325). -/
def opSrai (df : Fmt) (wd ws : Reg) (m : Nat) (s : State) : Result :=
  withImmediate (mOk df m) (lanewise2 df wd ws (fun _ a => shr (sext a) m) s)

/-- `srl` (R326). -/
def opSrl (df : Fmt) (wd ws wt : Reg) (s : State) : Result :=
  lanewise3 df wd ws wt (fun _ a b => shr (zext a) (bitPos b)) s

/-- `srli` (R327). -/
def opSrli (df : Fmt) (wd ws : Reg) (m : Nat) (s : State) : Result :=
  withImmediate (mOk df m) (lanewise2 df wd ws (fun _ a => shr (zext a) m) s)

/-- `srar` (R328). -/
def opSrar (df : Fmt) (wd ws wt : Reg) (s : State) : Result :=
  lanewise3 df wd ws wt (fun _ a b => shrRound a (sext a) (bitPos b)) s

/-- `srari` (R329). -/
def opSrari (df : Fmt) (wd ws : Reg) (m : Nat) (s : State) : Result :=
  withImmediate (mOk df m) (lanewise2 df wd ws (fun _ a => shrRound a (sext a) m) s)

/-- `srlr` (R330). -/
def opSrlr (df : Fmt) (wd ws wt : Reg) (s : State) : Result :=
  lanewise3 df wd ws wt (fun _ a b => shrRound a (zext a) (bitPos b)) s

/-- `srlri` (R331). -/
def opSrlri (df : Fmt) (wd ws : Reg) (m : Nat) (s : State) : Result :=
  withImmediate (mOk df m) (lanewise2 df wd ws (fun _ a => shrRound a (zext a) m) s)

/-! ## The meaning of each row -/

/-- `sll.b` (R322). -/
def execSllB (wd ws wt : Reg) (s : State) : Result := opSll .b wd ws wt s

/-- `sll.h` (R322). -/
def execSllH (wd ws wt : Reg) (s : State) : Result := opSll .h wd ws wt s

/-- `sll.w` (R322). -/
def execSllW (wd ws wt : Reg) (s : State) : Result := opSll .w wd ws wt s

/-- `sll.d` (R322). -/
def execSllD (wd ws wt : Reg) (s : State) : Result := opSll .d wd ws wt s

/-- `slli.b` (R323). -/
def execSlliB (wd ws : Reg) (m : Nat) (s : State) : Result := opSlli .b wd ws m s

/-- `slli.h` (R323). -/
def execSlliH (wd ws : Reg) (m : Nat) (s : State) : Result := opSlli .h wd ws m s

/-- `slli.w` (R323). -/
def execSlliW (wd ws : Reg) (m : Nat) (s : State) : Result := opSlli .w wd ws m s

/-- `slli.d` (R323). -/
def execSlliD (wd ws : Reg) (m : Nat) (s : State) : Result := opSlli .d wd ws m s

/-- `sra.b` (R324). -/
def execSraB (wd ws wt : Reg) (s : State) : Result := opSra .b wd ws wt s

/-- `sra.h` (R324). -/
def execSraH (wd ws wt : Reg) (s : State) : Result := opSra .h wd ws wt s

/-- `sra.w` (R324). -/
def execSraW (wd ws wt : Reg) (s : State) : Result := opSra .w wd ws wt s

/-- `sra.d` (R324). -/
def execSraD (wd ws wt : Reg) (s : State) : Result := opSra .d wd ws wt s

/-- `srai.b` (R325). -/
def execSraiB (wd ws : Reg) (m : Nat) (s : State) : Result := opSrai .b wd ws m s

/-- `srai.h` (R325). -/
def execSraiH (wd ws : Reg) (m : Nat) (s : State) : Result := opSrai .h wd ws m s

/-- `srai.w` (R325). -/
def execSraiW (wd ws : Reg) (m : Nat) (s : State) : Result := opSrai .w wd ws m s

/-- `srai.d` (R325). -/
def execSraiD (wd ws : Reg) (m : Nat) (s : State) : Result := opSrai .d wd ws m s

/-- `srl.b` (R326). -/
def execSrlB (wd ws wt : Reg) (s : State) : Result := opSrl .b wd ws wt s

/-- `srl.h` (R326). -/
def execSrlH (wd ws wt : Reg) (s : State) : Result := opSrl .h wd ws wt s

/-- `srl.w` (R326). -/
def execSrlW (wd ws wt : Reg) (s : State) : Result := opSrl .w wd ws wt s

/-- `srl.d` (R326). -/
def execSrlD (wd ws wt : Reg) (s : State) : Result := opSrl .d wd ws wt s

/-- `srli.b` (R327). -/
def execSrliB (wd ws : Reg) (m : Nat) (s : State) : Result := opSrli .b wd ws m s

/-- `srli.h` (R327). -/
def execSrliH (wd ws : Reg) (m : Nat) (s : State) : Result := opSrli .h wd ws m s

/-- `srli.w` (R327). -/
def execSrliW (wd ws : Reg) (m : Nat) (s : State) : Result := opSrli .w wd ws m s

/-- `srli.d` (R327). -/
def execSrliD (wd ws : Reg) (m : Nat) (s : State) : Result := opSrli .d wd ws m s

/-- `srar.b` (R328). -/
def execSrarB (wd ws wt : Reg) (s : State) : Result := opSrar .b wd ws wt s

/-- `srar.h` (R328). -/
def execSrarH (wd ws wt : Reg) (s : State) : Result := opSrar .h wd ws wt s

/-- `srar.w` (R328). -/
def execSrarW (wd ws wt : Reg) (s : State) : Result := opSrar .w wd ws wt s

/-- `srar.d` (R328). -/
def execSrarD (wd ws wt : Reg) (s : State) : Result := opSrar .d wd ws wt s

/-- `srari.b` (R329). -/
def execSrariB (wd ws : Reg) (m : Nat) (s : State) : Result := opSrari .b wd ws m s

/-- `srari.h` (R329). -/
def execSrariH (wd ws : Reg) (m : Nat) (s : State) : Result := opSrari .h wd ws m s

/-- `srari.w` (R329). -/
def execSrariW (wd ws : Reg) (m : Nat) (s : State) : Result := opSrari .w wd ws m s

/-- `srari.d` (R329). -/
def execSrariD (wd ws : Reg) (m : Nat) (s : State) : Result := opSrari .d wd ws m s

/-- `srlr.b` (R330). -/
def execSrlrB (wd ws wt : Reg) (s : State) : Result := opSrlr .b wd ws wt s

/-- `srlr.h` (R330). -/
def execSrlrH (wd ws wt : Reg) (s : State) : Result := opSrlr .h wd ws wt s

/-- `srlr.w` (R330). -/
def execSrlrW (wd ws wt : Reg) (s : State) : Result := opSrlr .w wd ws wt s

/-- `srlr.d` (R330). -/
def execSrlrD (wd ws wt : Reg) (s : State) : Result := opSrlr .d wd ws wt s

/-- `srlri.b` (R331). -/
def execSrlriB (wd ws : Reg) (m : Nat) (s : State) : Result := opSrlri .b wd ws m s

/-- `srlri.h` (R331). -/
def execSrlriH (wd ws : Reg) (m : Nat) (s : State) : Result := opSrlri .h wd ws m s

/-- `srlri.w` (R331). -/
def execSrlriW (wd ws : Reg) (m : Nat) (s : State) : Result := opSrlri .w wd ws m s

/-- `srlri.d` (R331). -/
def execSrlriD (wd ws : Reg) (m : Nat) (s : State) : Result := opSrlri .d wd ws m s

end Sys2Proof.Machine
end

