-- ==== Sys2Proof/Machine/Dispatch.lean ====
section
/-! DEFINITION. The dispatch: one arm per constructor of `Instr`, each one call of that row's own meaning.
Every row of `spec/opcode_table.json` has its meaning. -/

namespace Sys2Proof.Machine

def exec (i : Instr) (s : State) : Host.Outcome State Fault Refusal :=
  match i with
  -- Element
  | .copySB rd ws n => Sys2Proof.Machine.execCopySB rd ws n s
  | .copySH rd ws n => Sys2Proof.Machine.execCopySH rd ws n s
  | .copySW rd ws n => Sys2Proof.Machine.execCopySW rd ws n s
  | .copySD rd ws n => Sys2Proof.Machine.execCopySD rd ws n s
  | .copyUB rd ws n => Sys2Proof.Machine.execCopyUB rd ws n s
  | .copyUH rd ws n => Sys2Proof.Machine.execCopyUH rd ws n s
  | .copyUW rd ws n => Sys2Proof.Machine.execCopyUW rd ws n s
  | .insertB wd rs n => Sys2Proof.Machine.execInsertB wd rs n s
  | .insertH wd rs n => Sys2Proof.Machine.execInsertH wd rs n s
  | .insertW wd rs n => Sys2Proof.Machine.execInsertW wd rs n s
  | .insertD wd rs n => Sys2Proof.Machine.execInsertD wd rs n s
  | .insveB wd ws n => Sys2Proof.Machine.execInsveB wd ws n s
  | .insveH wd ws n => Sys2Proof.Machine.execInsveH wd ws n s
  | .insveW wd ws n => Sys2Proof.Machine.execInsveW wd ws n s
  | .insveD wd ws n => Sys2Proof.Machine.execInsveD wd ws n s
  | .fillB wd rs => Sys2Proof.Machine.execFillB wd rs s
  | .fillH wd rs => Sys2Proof.Machine.execFillH wd rs s
  | .fillW wd rs => Sys2Proof.Machine.execFillW wd rs s
  | .fillD wd rs => Sys2Proof.Machine.execFillD wd rs s
  | .moveV wd ws => Sys2Proof.Machine.execMoveV wd ws s
  -- AddSub
  | .addvB wd ws wt => Sys2Proof.Machine.execAddvB wd ws wt s
  | .addvH wd ws wt => Sys2Proof.Machine.execAddvH wd ws wt s
  | .addvW wd ws wt => Sys2Proof.Machine.execAddvW wd ws wt s
  | .addvD wd ws wt => Sys2Proof.Machine.execAddvD wd ws wt s
  | .addviB wd ws u5 => Sys2Proof.Machine.execAddviB wd ws u5 s
  | .addviH wd ws u5 => Sys2Proof.Machine.execAddviH wd ws u5 s
  | .addviW wd ws u5 => Sys2Proof.Machine.execAddviW wd ws u5 s
  | .addviD wd ws u5 => Sys2Proof.Machine.execAddviD wd ws u5 s
  | .subvB wd ws wt => Sys2Proof.Machine.execSubvB wd ws wt s
  | .subvH wd ws wt => Sys2Proof.Machine.execSubvH wd ws wt s
  | .subvW wd ws wt => Sys2Proof.Machine.execSubvW wd ws wt s
  | .subvD wd ws wt => Sys2Proof.Machine.execSubvD wd ws wt s
  | .subviB wd ws u5 => Sys2Proof.Machine.execSubviB wd ws u5 s
  | .subviH wd ws u5 => Sys2Proof.Machine.execSubviH wd ws u5 s
  | .subviW wd ws u5 => Sys2Proof.Machine.execSubviW wd ws u5 s
  | .subviD wd ws u5 => Sys2Proof.Machine.execSubviD wd ws u5 s
  | .addsSB wd ws wt => Sys2Proof.Machine.execAddsSB wd ws wt s
  | .addsSH wd ws wt => Sys2Proof.Machine.execAddsSH wd ws wt s
  | .addsSW wd ws wt => Sys2Proof.Machine.execAddsSW wd ws wt s
  | .addsSD wd ws wt => Sys2Proof.Machine.execAddsSD wd ws wt s
  | .addsUB wd ws wt => Sys2Proof.Machine.execAddsUB wd ws wt s
  | .addsUH wd ws wt => Sys2Proof.Machine.execAddsUH wd ws wt s
  | .addsUW wd ws wt => Sys2Proof.Machine.execAddsUW wd ws wt s
  | .addsUD wd ws wt => Sys2Proof.Machine.execAddsUD wd ws wt s
  | .subsSB wd ws wt => Sys2Proof.Machine.execSubsSB wd ws wt s
  | .subsSH wd ws wt => Sys2Proof.Machine.execSubsSH wd ws wt s
  | .subsSW wd ws wt => Sys2Proof.Machine.execSubsSW wd ws wt s
  | .subsSD wd ws wt => Sys2Proof.Machine.execSubsSD wd ws wt s
  | .subsUB wd ws wt => Sys2Proof.Machine.execSubsUB wd ws wt s
  | .subsUH wd ws wt => Sys2Proof.Machine.execSubsUH wd ws wt s
  | .subsUW wd ws wt => Sys2Proof.Machine.execSubsUW wd ws wt s
  | .subsUD wd ws wt => Sys2Proof.Machine.execSubsUD wd ws wt s
  | .subsusUB wd ws wt => Sys2Proof.Machine.execSubsusUB wd ws wt s
  | .subsusUH wd ws wt => Sys2Proof.Machine.execSubsusUH wd ws wt s
  | .subsusUW wd ws wt => Sys2Proof.Machine.execSubsusUW wd ws wt s
  | .subsusUD wd ws wt => Sys2Proof.Machine.execSubsusUD wd ws wt s
  | .subsuuSB wd ws wt => Sys2Proof.Machine.execSubsuuSB wd ws wt s
  | .subsuuSH wd ws wt => Sys2Proof.Machine.execSubsuuSH wd ws wt s
  | .subsuuSW wd ws wt => Sys2Proof.Machine.execSubsuuSW wd ws wt s
  | .subsuuSD wd ws wt => Sys2Proof.Machine.execSubsuuSD wd ws wt s
  | .asubSB wd ws wt => Sys2Proof.Machine.execAsubSB wd ws wt s
  | .asubSH wd ws wt => Sys2Proof.Machine.execAsubSH wd ws wt s
  | .asubSW wd ws wt => Sys2Proof.Machine.execAsubSW wd ws wt s
  | .asubSD wd ws wt => Sys2Proof.Machine.execAsubSD wd ws wt s
  | .asubUB wd ws wt => Sys2Proof.Machine.execAsubUB wd ws wt s
  | .asubUH wd ws wt => Sys2Proof.Machine.execAsubUH wd ws wt s
  | .asubUW wd ws wt => Sys2Proof.Machine.execAsubUW wd ws wt s
  | .asubUD wd ws wt => Sys2Proof.Machine.execAsubUD wd ws wt s
  | .addAB wd ws wt => Sys2Proof.Machine.execAddAB wd ws wt s
  | .addAH wd ws wt => Sys2Proof.Machine.execAddAH wd ws wt s
  | .addAW wd ws wt => Sys2Proof.Machine.execAddAW wd ws wt s
  | .addAD wd ws wt => Sys2Proof.Machine.execAddAD wd ws wt s
  | .addsAB wd ws wt => Sys2Proof.Machine.execAddsAB wd ws wt s
  | .addsAH wd ws wt => Sys2Proof.Machine.execAddsAH wd ws wt s
  | .addsAW wd ws wt => Sys2Proof.Machine.execAddsAW wd ws wt s
  | .addsAD wd ws wt => Sys2Proof.Machine.execAddsAD wd ws wt s
  | .aveSB wd ws wt => Sys2Proof.Machine.execAveSB wd ws wt s
  | .aveSH wd ws wt => Sys2Proof.Machine.execAveSH wd ws wt s
  | .aveSW wd ws wt => Sys2Proof.Machine.execAveSW wd ws wt s
  | .aveSD wd ws wt => Sys2Proof.Machine.execAveSD wd ws wt s
  | .aveUB wd ws wt => Sys2Proof.Machine.execAveUB wd ws wt s
  | .aveUH wd ws wt => Sys2Proof.Machine.execAveUH wd ws wt s
  | .aveUW wd ws wt => Sys2Proof.Machine.execAveUW wd ws wt s
  | .aveUD wd ws wt => Sys2Proof.Machine.execAveUD wd ws wt s
  | .averSB wd ws wt => Sys2Proof.Machine.execAverSB wd ws wt s
  | .averSH wd ws wt => Sys2Proof.Machine.execAverSH wd ws wt s
  | .averSW wd ws wt => Sys2Proof.Machine.execAverSW wd ws wt s
  | .averSD wd ws wt => Sys2Proof.Machine.execAverSD wd ws wt s
  | .averUB wd ws wt => Sys2Proof.Machine.execAverUB wd ws wt s
  | .averUH wd ws wt => Sys2Proof.Machine.execAverUH wd ws wt s
  | .averUW wd ws wt => Sys2Proof.Machine.execAverUW wd ws wt s
  | .averUD wd ws wt => Sys2Proof.Machine.execAverUD wd ws wt s
  -- MinMax
  | .maxAB wd ws wt => Sys2Proof.Machine.execMaxAB wd ws wt s
  | .maxAH wd ws wt => Sys2Proof.Machine.execMaxAH wd ws wt s
  | .maxAW wd ws wt => Sys2Proof.Machine.execMaxAW wd ws wt s
  | .maxAD wd ws wt => Sys2Proof.Machine.execMaxAD wd ws wt s
  | .minAB wd ws wt => Sys2Proof.Machine.execMinAB wd ws wt s
  | .minAH wd ws wt => Sys2Proof.Machine.execMinAH wd ws wt s
  | .minAW wd ws wt => Sys2Proof.Machine.execMinAW wd ws wt s
  | .minAD wd ws wt => Sys2Proof.Machine.execMinAD wd ws wt s
  | .maxSB wd ws wt => Sys2Proof.Machine.execMaxSB wd ws wt s
  | .maxSH wd ws wt => Sys2Proof.Machine.execMaxSH wd ws wt s
  | .maxSW wd ws wt => Sys2Proof.Machine.execMaxSW wd ws wt s
  | .maxSD wd ws wt => Sys2Proof.Machine.execMaxSD wd ws wt s
  | .maxUB wd ws wt => Sys2Proof.Machine.execMaxUB wd ws wt s
  | .maxUH wd ws wt => Sys2Proof.Machine.execMaxUH wd ws wt s
  | .maxUW wd ws wt => Sys2Proof.Machine.execMaxUW wd ws wt s
  | .maxUD wd ws wt => Sys2Proof.Machine.execMaxUD wd ws wt s
  | .minSB wd ws wt => Sys2Proof.Machine.execMinSB wd ws wt s
  | .minSH wd ws wt => Sys2Proof.Machine.execMinSH wd ws wt s
  | .minSW wd ws wt => Sys2Proof.Machine.execMinSW wd ws wt s
  | .minSD wd ws wt => Sys2Proof.Machine.execMinSD wd ws wt s
  | .minUB wd ws wt => Sys2Proof.Machine.execMinUB wd ws wt s
  | .minUH wd ws wt => Sys2Proof.Machine.execMinUH wd ws wt s
  | .minUW wd ws wt => Sys2Proof.Machine.execMinUW wd ws wt s
  | .minUD wd ws wt => Sys2Proof.Machine.execMinUD wd ws wt s
  | .maxiSB wd ws s5 => Sys2Proof.Machine.execMaxiSB wd ws s5 s
  | .maxiSH wd ws s5 => Sys2Proof.Machine.execMaxiSH wd ws s5 s
  | .maxiSW wd ws s5 => Sys2Proof.Machine.execMaxiSW wd ws s5 s
  | .maxiSD wd ws s5 => Sys2Proof.Machine.execMaxiSD wd ws s5 s
  | .maxiUB wd ws u5 => Sys2Proof.Machine.execMaxiUB wd ws u5 s
  | .maxiUH wd ws u5 => Sys2Proof.Machine.execMaxiUH wd ws u5 s
  | .maxiUW wd ws u5 => Sys2Proof.Machine.execMaxiUW wd ws u5 s
  | .maxiUD wd ws u5 => Sys2Proof.Machine.execMaxiUD wd ws u5 s
  | .miniSB wd ws s5 => Sys2Proof.Machine.execMiniSB wd ws s5 s
  | .miniSH wd ws s5 => Sys2Proof.Machine.execMiniSH wd ws s5 s
  | .miniSW wd ws s5 => Sys2Proof.Machine.execMiniSW wd ws s5 s
  | .miniSD wd ws s5 => Sys2Proof.Machine.execMiniSD wd ws s5 s
  | .miniUB wd ws u5 => Sys2Proof.Machine.execMiniUB wd ws u5 s
  | .miniUH wd ws u5 => Sys2Proof.Machine.execMiniUH wd ws u5 s
  | .miniUW wd ws u5 => Sys2Proof.Machine.execMiniUW wd ws u5 s
  | .miniUD wd ws u5 => Sys2Proof.Machine.execMiniUD wd ws u5 s
  | .ceqB wd ws wt => Sys2Proof.Machine.execCeqB wd ws wt s
  | .ceqH wd ws wt => Sys2Proof.Machine.execCeqH wd ws wt s
  | .ceqW wd ws wt => Sys2Proof.Machine.execCeqW wd ws wt s
  | .ceqD wd ws wt => Sys2Proof.Machine.execCeqD wd ws wt s
  | .ceqiB wd ws s5 => Sys2Proof.Machine.execCeqiB wd ws s5 s
  | .ceqiH wd ws s5 => Sys2Proof.Machine.execCeqiH wd ws s5 s
  | .ceqiW wd ws s5 => Sys2Proof.Machine.execCeqiW wd ws s5 s
  | .ceqiD wd ws s5 => Sys2Proof.Machine.execCeqiD wd ws s5 s
  | .cltSB wd ws wt => Sys2Proof.Machine.execCltSB wd ws wt s
  | .cltSH wd ws wt => Sys2Proof.Machine.execCltSH wd ws wt s
  | .cltSW wd ws wt => Sys2Proof.Machine.execCltSW wd ws wt s
  | .cltSD wd ws wt => Sys2Proof.Machine.execCltSD wd ws wt s
  | .cltUB wd ws wt => Sys2Proof.Machine.execCltUB wd ws wt s
  | .cltUH wd ws wt => Sys2Proof.Machine.execCltUH wd ws wt s
  | .cltUW wd ws wt => Sys2Proof.Machine.execCltUW wd ws wt s
  | .cltUD wd ws wt => Sys2Proof.Machine.execCltUD wd ws wt s
  | .cltiSB wd ws s5 => Sys2Proof.Machine.execCltiSB wd ws s5 s
  | .cltiSH wd ws s5 => Sys2Proof.Machine.execCltiSH wd ws s5 s
  | .cltiSW wd ws s5 => Sys2Proof.Machine.execCltiSW wd ws s5 s
  | .cltiSD wd ws s5 => Sys2Proof.Machine.execCltiSD wd ws s5 s
  | .cltiUB wd ws u5 => Sys2Proof.Machine.execCltiUB wd ws u5 s
  | .cltiUH wd ws u5 => Sys2Proof.Machine.execCltiUH wd ws u5 s
  | .cltiUW wd ws u5 => Sys2Proof.Machine.execCltiUW wd ws u5 s
  | .cltiUD wd ws u5 => Sys2Proof.Machine.execCltiUD wd ws u5 s
  | .cleSB wd ws wt => Sys2Proof.Machine.execCleSB wd ws wt s
  | .cleSH wd ws wt => Sys2Proof.Machine.execCleSH wd ws wt s
  | .cleSW wd ws wt => Sys2Proof.Machine.execCleSW wd ws wt s
  | .cleSD wd ws wt => Sys2Proof.Machine.execCleSD wd ws wt s
  | .cleUB wd ws wt => Sys2Proof.Machine.execCleUB wd ws wt s
  | .cleUH wd ws wt => Sys2Proof.Machine.execCleUH wd ws wt s
  | .cleUW wd ws wt => Sys2Proof.Machine.execCleUW wd ws wt s
  | .cleUD wd ws wt => Sys2Proof.Machine.execCleUD wd ws wt s
  | .cleiSB wd ws s5 => Sys2Proof.Machine.execCleiSB wd ws s5 s
  | .cleiSH wd ws s5 => Sys2Proof.Machine.execCleiSH wd ws s5 s
  | .cleiSW wd ws s5 => Sys2Proof.Machine.execCleiSW wd ws s5 s
  | .cleiSD wd ws s5 => Sys2Proof.Machine.execCleiSD wd ws s5 s
  | .cleiUB wd ws u5 => Sys2Proof.Machine.execCleiUB wd ws u5 s
  | .cleiUH wd ws u5 => Sys2Proof.Machine.execCleiUH wd ws u5 s
  | .cleiUW wd ws u5 => Sys2Proof.Machine.execCleiUW wd ws u5 s
  | .cleiUD wd ws u5 => Sys2Proof.Machine.execCleiUD wd ws u5 s
  -- MulDiv
  | .haddSH wd ws wt => Sys2Proof.Machine.execHaddSH wd ws wt s
  | .haddSW wd ws wt => Sys2Proof.Machine.execHaddSW wd ws wt s
  | .haddSD wd ws wt => Sys2Proof.Machine.execHaddSD wd ws wt s
  | .haddUH wd ws wt => Sys2Proof.Machine.execHaddUH wd ws wt s
  | .haddUW wd ws wt => Sys2Proof.Machine.execHaddUW wd ws wt s
  | .haddUD wd ws wt => Sys2Proof.Machine.execHaddUD wd ws wt s
  | .hsubSH wd ws wt => Sys2Proof.Machine.execHsubSH wd ws wt s
  | .hsubSW wd ws wt => Sys2Proof.Machine.execHsubSW wd ws wt s
  | .hsubSD wd ws wt => Sys2Proof.Machine.execHsubSD wd ws wt s
  | .hsubUH wd ws wt => Sys2Proof.Machine.execHsubUH wd ws wt s
  | .hsubUW wd ws wt => Sys2Proof.Machine.execHsubUW wd ws wt s
  | .hsubUD wd ws wt => Sys2Proof.Machine.execHsubUD wd ws wt s
  | .dotpSH wd ws wt => Sys2Proof.Machine.execDotpSH wd ws wt s
  | .dotpSW wd ws wt => Sys2Proof.Machine.execDotpSW wd ws wt s
  | .dotpSD wd ws wt => Sys2Proof.Machine.execDotpSD wd ws wt s
  | .dotpUH wd ws wt => Sys2Proof.Machine.execDotpUH wd ws wt s
  | .dotpUW wd ws wt => Sys2Proof.Machine.execDotpUW wd ws wt s
  | .dotpUD wd ws wt => Sys2Proof.Machine.execDotpUD wd ws wt s
  | .dpaddSH wd ws wt => Sys2Proof.Machine.execDpaddSH wd ws wt s
  | .dpaddSW wd ws wt => Sys2Proof.Machine.execDpaddSW wd ws wt s
  | .dpaddSD wd ws wt => Sys2Proof.Machine.execDpaddSD wd ws wt s
  | .dpaddUH wd ws wt => Sys2Proof.Machine.execDpaddUH wd ws wt s
  | .dpaddUW wd ws wt => Sys2Proof.Machine.execDpaddUW wd ws wt s
  | .dpaddUD wd ws wt => Sys2Proof.Machine.execDpaddUD wd ws wt s
  | .dpsubSH wd ws wt => Sys2Proof.Machine.execDpsubSH wd ws wt s
  | .dpsubSW wd ws wt => Sys2Proof.Machine.execDpsubSW wd ws wt s
  | .dpsubSD wd ws wt => Sys2Proof.Machine.execDpsubSD wd ws wt s
  | .dpsubUH wd ws wt => Sys2Proof.Machine.execDpsubUH wd ws wt s
  | .dpsubUW wd ws wt => Sys2Proof.Machine.execDpsubUW wd ws wt s
  | .dpsubUD wd ws wt => Sys2Proof.Machine.execDpsubUD wd ws wt s
  | .mulvB wd ws wt => Sys2Proof.Machine.execMulvB wd ws wt s
  | .mulvH wd ws wt => Sys2Proof.Machine.execMulvH wd ws wt s
  | .mulvW wd ws wt => Sys2Proof.Machine.execMulvW wd ws wt s
  | .mulvD wd ws wt => Sys2Proof.Machine.execMulvD wd ws wt s
  | .maddvB wd ws wt => Sys2Proof.Machine.execMaddvB wd ws wt s
  | .maddvH wd ws wt => Sys2Proof.Machine.execMaddvH wd ws wt s
  | .maddvW wd ws wt => Sys2Proof.Machine.execMaddvW wd ws wt s
  | .maddvD wd ws wt => Sys2Proof.Machine.execMaddvD wd ws wt s
  | .msubvB wd ws wt => Sys2Proof.Machine.execMsubvB wd ws wt s
  | .msubvH wd ws wt => Sys2Proof.Machine.execMsubvH wd ws wt s
  | .msubvW wd ws wt => Sys2Proof.Machine.execMsubvW wd ws wt s
  | .msubvD wd ws wt => Sys2Proof.Machine.execMsubvD wd ws wt s
  | .divSB wd ws wt => Sys2Proof.Machine.execDivSB wd ws wt s
  | .divSH wd ws wt => Sys2Proof.Machine.execDivSH wd ws wt s
  | .divSW wd ws wt => Sys2Proof.Machine.execDivSW wd ws wt s
  | .divSD wd ws wt => Sys2Proof.Machine.execDivSD wd ws wt s
  | .divUB wd ws wt => Sys2Proof.Machine.execDivUB wd ws wt s
  | .divUH wd ws wt => Sys2Proof.Machine.execDivUH wd ws wt s
  | .divUW wd ws wt => Sys2Proof.Machine.execDivUW wd ws wt s
  | .divUD wd ws wt => Sys2Proof.Machine.execDivUD wd ws wt s
  | .modSB wd ws wt => Sys2Proof.Machine.execModSB wd ws wt s
  | .modSH wd ws wt => Sys2Proof.Machine.execModSH wd ws wt s
  | .modSW wd ws wt => Sys2Proof.Machine.execModSW wd ws wt s
  | .modSD wd ws wt => Sys2Proof.Machine.execModSD wd ws wt s
  | .modUB wd ws wt => Sys2Proof.Machine.execModUB wd ws wt s
  | .modUH wd ws wt => Sys2Proof.Machine.execModUH wd ws wt s
  | .modUW wd ws wt => Sys2Proof.Machine.execModUW wd ws wt s
  | .modUD wd ws wt => Sys2Proof.Machine.execModUD wd ws wt s
  -- FixedPoint
  | .mulQH wd ws wt => Sys2Proof.Machine.execMulQH wd ws wt s
  | .mulQW wd ws wt => Sys2Proof.Machine.execMulQW wd ws wt s
  | .mulrQH wd ws wt => Sys2Proof.Machine.execMulrQH wd ws wt s
  | .mulrQW wd ws wt => Sys2Proof.Machine.execMulrQW wd ws wt s
  | .maddQH wd ws wt => Sys2Proof.Machine.execMaddQH wd ws wt s
  | .maddQW wd ws wt => Sys2Proof.Machine.execMaddQW wd ws wt s
  | .maddrQH wd ws wt => Sys2Proof.Machine.execMaddrQH wd ws wt s
  | .maddrQW wd ws wt => Sys2Proof.Machine.execMaddrQW wd ws wt s
  | .msubQH wd ws wt => Sys2Proof.Machine.execMsubQH wd ws wt s
  | .msubQW wd ws wt => Sys2Proof.Machine.execMsubQW wd ws wt s
  | .msubrQH wd ws wt => Sys2Proof.Machine.execMsubrQH wd ws wt s
  | .msubrQW wd ws wt => Sys2Proof.Machine.execMsubrQW wd ws wt s
  -- BitOps
  | .bclrB wd ws wt => Sys2Proof.Machine.execBclrB wd ws wt s
  | .bclrH wd ws wt => Sys2Proof.Machine.execBclrH wd ws wt s
  | .bclrW wd ws wt => Sys2Proof.Machine.execBclrW wd ws wt s
  | .bclrD wd ws wt => Sys2Proof.Machine.execBclrD wd ws wt s
  | .bclriB wd ws m => Sys2Proof.Machine.execBclriB wd ws m s
  | .bclriH wd ws m => Sys2Proof.Machine.execBclriH wd ws m s
  | .bclriW wd ws m => Sys2Proof.Machine.execBclriW wd ws m s
  | .bclriD wd ws m => Sys2Proof.Machine.execBclriD wd ws m s
  | .bsetB wd ws wt => Sys2Proof.Machine.execBsetB wd ws wt s
  | .bsetH wd ws wt => Sys2Proof.Machine.execBsetH wd ws wt s
  | .bsetW wd ws wt => Sys2Proof.Machine.execBsetW wd ws wt s
  | .bsetD wd ws wt => Sys2Proof.Machine.execBsetD wd ws wt s
  | .bsetiB wd ws m => Sys2Proof.Machine.execBsetiB wd ws m s
  | .bsetiH wd ws m => Sys2Proof.Machine.execBsetiH wd ws m s
  | .bsetiW wd ws m => Sys2Proof.Machine.execBsetiW wd ws m s
  | .bsetiD wd ws m => Sys2Proof.Machine.execBsetiD wd ws m s
  | .bnegB wd ws wt => Sys2Proof.Machine.execBnegB wd ws wt s
  | .bnegH wd ws wt => Sys2Proof.Machine.execBnegH wd ws wt s
  | .bnegW wd ws wt => Sys2Proof.Machine.execBnegW wd ws wt s
  | .bnegD wd ws wt => Sys2Proof.Machine.execBnegD wd ws wt s
  | .bnegiB wd ws m => Sys2Proof.Machine.execBnegiB wd ws m s
  | .bnegiH wd ws m => Sys2Proof.Machine.execBnegiH wd ws m s
  | .bnegiW wd ws m => Sys2Proof.Machine.execBnegiW wd ws m s
  | .bnegiD wd ws m => Sys2Proof.Machine.execBnegiD wd ws m s
  | .binslB wd ws wt => Sys2Proof.Machine.execBinslB wd ws wt s
  | .binslH wd ws wt => Sys2Proof.Machine.execBinslH wd ws wt s
  | .binslW wd ws wt => Sys2Proof.Machine.execBinslW wd ws wt s
  | .binslD wd ws wt => Sys2Proof.Machine.execBinslD wd ws wt s
  | .binsliB wd ws m => Sys2Proof.Machine.execBinsliB wd ws m s
  | .binsliH wd ws m => Sys2Proof.Machine.execBinsliH wd ws m s
  | .binsliW wd ws m => Sys2Proof.Machine.execBinsliW wd ws m s
  | .binsliD wd ws m => Sys2Proof.Machine.execBinsliD wd ws m s
  | .binsrB wd ws wt => Sys2Proof.Machine.execBinsrB wd ws wt s
  | .binsrH wd ws wt => Sys2Proof.Machine.execBinsrH wd ws wt s
  | .binsrW wd ws wt => Sys2Proof.Machine.execBinsrW wd ws wt s
  | .binsrD wd ws wt => Sys2Proof.Machine.execBinsrD wd ws wt s
  | .binsriB wd ws m => Sys2Proof.Machine.execBinsriB wd ws m s
  | .binsriH wd ws m => Sys2Proof.Machine.execBinsriH wd ws m s
  | .binsriW wd ws m => Sys2Proof.Machine.execBinsriW wd ws m s
  | .binsriD wd ws m => Sys2Proof.Machine.execBinsriD wd ws m s
  | .satSB wd ws m => Sys2Proof.Machine.execSatSB wd ws m s
  | .satSH wd ws m => Sys2Proof.Machine.execSatSH wd ws m s
  | .satSW wd ws m => Sys2Proof.Machine.execSatSW wd ws m s
  | .satSD wd ws m => Sys2Proof.Machine.execSatSD wd ws m s
  | .satUB wd ws m => Sys2Proof.Machine.execSatUB wd ws m s
  | .satUH wd ws m => Sys2Proof.Machine.execSatUH wd ws m s
  | .satUW wd ws m => Sys2Proof.Machine.execSatUW wd ws m s
  | .satUD wd ws m => Sys2Proof.Machine.execSatUD wd ws m s
  | .pcntB wd ws => Sys2Proof.Machine.execPcntB wd ws s
  | .pcntH wd ws => Sys2Proof.Machine.execPcntH wd ws s
  | .pcntW wd ws => Sys2Proof.Machine.execPcntW wd ws s
  | .pcntD wd ws => Sys2Proof.Machine.execPcntD wd ws s
  | .nlocB wd ws => Sys2Proof.Machine.execNlocB wd ws s
  | .nlocH wd ws => Sys2Proof.Machine.execNlocH wd ws s
  | .nlocW wd ws => Sys2Proof.Machine.execNlocW wd ws s
  | .nlocD wd ws => Sys2Proof.Machine.execNlocD wd ws s
  | .nlzcB wd ws => Sys2Proof.Machine.execNlzcB wd ws s
  | .nlzcH wd ws => Sys2Proof.Machine.execNlzcH wd ws s
  | .nlzcW wd ws => Sys2Proof.Machine.execNlzcW wd ws s
  | .nlzcD wd ws => Sys2Proof.Machine.execNlzcD wd ws s
  -- Logic
  | .andV wd ws wt => Sys2Proof.Machine.execAndV wd ws wt s
  | .orV wd ws wt => Sys2Proof.Machine.execOrV wd ws wt s
  | .norV wd ws wt => Sys2Proof.Machine.execNorV wd ws wt s
  | .xorV wd ws wt => Sys2Proof.Machine.execXorV wd ws wt s
  | .andiB wd ws i8 => Sys2Proof.Machine.execAndiB wd ws i8 s
  | .oriB wd ws i8 => Sys2Proof.Machine.execOriB wd ws i8 s
  | .noriB wd ws i8 => Sys2Proof.Machine.execNoriB wd ws i8 s
  | .xoriB wd ws i8 => Sys2Proof.Machine.execXoriB wd ws i8 s
  | .bmnzV wd ws wt => Sys2Proof.Machine.execBmnzV wd ws wt s
  | .bmzV wd ws wt => Sys2Proof.Machine.execBmzV wd ws wt s
  | .bselV wd ws wt => Sys2Proof.Machine.execBselV wd ws wt s
  | .bmnziB wd ws i8 => Sys2Proof.Machine.execBmnziB wd ws i8 s
  | .bmziB wd ws i8 => Sys2Proof.Machine.execBmziB wd ws i8 s
  | .bseliB wd ws i8 => Sys2Proof.Machine.execBseliB wd ws i8 s
  -- Shift
  | .sllB wd ws wt => Sys2Proof.Machine.execSllB wd ws wt s
  | .sllH wd ws wt => Sys2Proof.Machine.execSllH wd ws wt s
  | .sllW wd ws wt => Sys2Proof.Machine.execSllW wd ws wt s
  | .sllD wd ws wt => Sys2Proof.Machine.execSllD wd ws wt s
  | .slliB wd ws m => Sys2Proof.Machine.execSlliB wd ws m s
  | .slliH wd ws m => Sys2Proof.Machine.execSlliH wd ws m s
  | .slliW wd ws m => Sys2Proof.Machine.execSlliW wd ws m s
  | .slliD wd ws m => Sys2Proof.Machine.execSlliD wd ws m s
  | .sraB wd ws wt => Sys2Proof.Machine.execSraB wd ws wt s
  | .sraH wd ws wt => Sys2Proof.Machine.execSraH wd ws wt s
  | .sraW wd ws wt => Sys2Proof.Machine.execSraW wd ws wt s
  | .sraD wd ws wt => Sys2Proof.Machine.execSraD wd ws wt s
  | .sraiB wd ws m => Sys2Proof.Machine.execSraiB wd ws m s
  | .sraiH wd ws m => Sys2Proof.Machine.execSraiH wd ws m s
  | .sraiW wd ws m => Sys2Proof.Machine.execSraiW wd ws m s
  | .sraiD wd ws m => Sys2Proof.Machine.execSraiD wd ws m s
  | .srlB wd ws wt => Sys2Proof.Machine.execSrlB wd ws wt s
  | .srlH wd ws wt => Sys2Proof.Machine.execSrlH wd ws wt s
  | .srlW wd ws wt => Sys2Proof.Machine.execSrlW wd ws wt s
  | .srlD wd ws wt => Sys2Proof.Machine.execSrlD wd ws wt s
  | .srliB wd ws m => Sys2Proof.Machine.execSrliB wd ws m s
  | .srliH wd ws m => Sys2Proof.Machine.execSrliH wd ws m s
  | .srliW wd ws m => Sys2Proof.Machine.execSrliW wd ws m s
  | .srliD wd ws m => Sys2Proof.Machine.execSrliD wd ws m s
  | .srarB wd ws wt => Sys2Proof.Machine.execSrarB wd ws wt s
  | .srarH wd ws wt => Sys2Proof.Machine.execSrarH wd ws wt s
  | .srarW wd ws wt => Sys2Proof.Machine.execSrarW wd ws wt s
  | .srarD wd ws wt => Sys2Proof.Machine.execSrarD wd ws wt s
  | .srariB wd ws m => Sys2Proof.Machine.execSrariB wd ws m s
  | .srariH wd ws m => Sys2Proof.Machine.execSrariH wd ws m s
  | .srariW wd ws m => Sys2Proof.Machine.execSrariW wd ws m s
  | .srariD wd ws m => Sys2Proof.Machine.execSrariD wd ws m s
  | .srlrB wd ws wt => Sys2Proof.Machine.execSrlrB wd ws wt s
  | .srlrH wd ws wt => Sys2Proof.Machine.execSrlrH wd ws wt s
  | .srlrW wd ws wt => Sys2Proof.Machine.execSrlrW wd ws wt s
  | .srlrD wd ws wt => Sys2Proof.Machine.execSrlrD wd ws wt s
  | .srlriB wd ws m => Sys2Proof.Machine.execSrlriB wd ws m s
  | .srlriH wd ws m => Sys2Proof.Machine.execSrlriH wd ws m s
  | .srlriW wd ws m => Sys2Proof.Machine.execSrlriW wd ws m s
  | .srlriD wd ws m => Sys2Proof.Machine.execSrlriD wd ws m s
  -- Permute
  | .ilvevB wd ws wt => Sys2Proof.Machine.execIlvevB wd ws wt s
  | .ilvevH wd ws wt => Sys2Proof.Machine.execIlvevH wd ws wt s
  | .ilvevW wd ws wt => Sys2Proof.Machine.execIlvevW wd ws wt s
  | .ilvevD wd ws wt => Sys2Proof.Machine.execIlvevD wd ws wt s
  | .ilvodB wd ws wt => Sys2Proof.Machine.execIlvodB wd ws wt s
  | .ilvodH wd ws wt => Sys2Proof.Machine.execIlvodH wd ws wt s
  | .ilvodW wd ws wt => Sys2Proof.Machine.execIlvodW wd ws wt s
  | .ilvodD wd ws wt => Sys2Proof.Machine.execIlvodD wd ws wt s
  | .ilvlB wd ws wt => Sys2Proof.Machine.execIlvlB wd ws wt s
  | .ilvlH wd ws wt => Sys2Proof.Machine.execIlvlH wd ws wt s
  | .ilvlW wd ws wt => Sys2Proof.Machine.execIlvlW wd ws wt s
  | .ilvlD wd ws wt => Sys2Proof.Machine.execIlvlD wd ws wt s
  | .ilvrB wd ws wt => Sys2Proof.Machine.execIlvrB wd ws wt s
  | .ilvrH wd ws wt => Sys2Proof.Machine.execIlvrH wd ws wt s
  | .ilvrW wd ws wt => Sys2Proof.Machine.execIlvrW wd ws wt s
  | .ilvrD wd ws wt => Sys2Proof.Machine.execIlvrD wd ws wt s
  | .pckevB wd ws wt => Sys2Proof.Machine.execPckevB wd ws wt s
  | .pckevH wd ws wt => Sys2Proof.Machine.execPckevH wd ws wt s
  | .pckevW wd ws wt => Sys2Proof.Machine.execPckevW wd ws wt s
  | .pckevD wd ws wt => Sys2Proof.Machine.execPckevD wd ws wt s
  | .pckodB wd ws wt => Sys2Proof.Machine.execPckodB wd ws wt s
  | .pckodH wd ws wt => Sys2Proof.Machine.execPckodH wd ws wt s
  | .pckodW wd ws wt => Sys2Proof.Machine.execPckodW wd ws wt s
  | .pckodD wd ws wt => Sys2Proof.Machine.execPckodD wd ws wt s
  | .vshfB wd ws wt => Sys2Proof.Machine.execVshfB wd ws wt s
  | .vshfH wd ws wt => Sys2Proof.Machine.execVshfH wd ws wt s
  | .vshfW wd ws wt => Sys2Proof.Machine.execVshfW wd ws wt s
  | .vshfD wd ws wt => Sys2Proof.Machine.execVshfD wd ws wt s
  | .shfB wd ws i8 => Sys2Proof.Machine.execShfB wd ws i8 s
  | .shfH wd ws i8 => Sys2Proof.Machine.execShfH wd ws i8 s
  | .shfW wd ws i8 => Sys2Proof.Machine.execShfW wd ws i8 s
  | .sldB wd ws rt => Sys2Proof.Machine.execSldB wd ws rt s
  | .sldH wd ws rt => Sys2Proof.Machine.execSldH wd ws rt s
  | .sldW wd ws rt => Sys2Proof.Machine.execSldW wd ws rt s
  | .sldD wd ws rt => Sys2Proof.Machine.execSldD wd ws rt s
  | .sldiB wd ws n => Sys2Proof.Machine.execSldiB wd ws n s
  | .sldiH wd ws n => Sys2Proof.Machine.execSldiH wd ws n s
  | .sldiW wd ws n => Sys2Proof.Machine.execSldiW wd ws n s
  | .sldiD wd ws n => Sys2Proof.Machine.execSldiD wd ws n s
  | .splatB wd ws rt => Sys2Proof.Machine.execSplatB wd ws rt s
  | .splatH wd ws rt => Sys2Proof.Machine.execSplatH wd ws rt s
  | .splatW wd ws rt => Sys2Proof.Machine.execSplatW wd ws rt s
  | .splatD wd ws rt => Sys2Proof.Machine.execSplatD wd ws rt s
  | .splatiB wd ws n => Sys2Proof.Machine.execSplatiB wd ws n s
  | .splatiH wd ws n => Sys2Proof.Machine.execSplatiH wd ws n s
  | .splatiW wd ws n => Sys2Proof.Machine.execSplatiW wd ws n s
  | .splatiD wd ws n => Sys2Proof.Machine.execSplatiD wd ws n s
  | .ldiB wd s10 => Sys2Proof.Machine.execLdiB wd s10 s
  | .ldiH wd s10 => Sys2Proof.Machine.execLdiH wd s10 s
  | .ldiW wd s10 => Sys2Proof.Machine.execLdiW wd s10 s
  | .ldiD wd s10 => Sys2Proof.Machine.execLdiD wd s10 s

end Sys2Proof.Machine
end

