-- ==== Sys2Proof/Machine/Issue.lean ====
section
/-! DEFINITION. What the outside world does to the block in one step (70_reset R399, 30_encoding R80, R98): the
dispatcher decodes a word or hands over a descriptor, with a value on `gpr_in`; the collaborator clears
`MODIFY`; another context ORs into it. -/

namespace Sys2Proof.Machine

noncomputable section

/-- The dispatcher puts a value on `gpr_in`: the port is `GPRLEN` bits wide (10_state R36; log 8). -/
def driveGprIn (s : State) (v : Scalar) : State :=
  { s with gprIn := BitVec.ofNat 64 (v.toNat % 2 ^ s.params.gprLen.bits) }

/-- One operation of the run: its own effect, or its fault handed over with the state before it (70_reset R397,
R399). -/
def issueDescriptor (i : Instr) (s : State) : Result := handOver s (exec i s)

/-- A word that spells an instruction is run; any other is refused, and no descriptor reaches the block
(30_encoding R106, R112). -/
def issueWord (w : Word32) (s : State) : Result :=
  match decode w with
  | .ok i => issueDescriptor i s
  | .error why => .refused (.reservedWord why)

/-- One event. -/
def handle (e : Event) (s : State) : Result :=
  match e with
  | .word w g => issueWord w (driveGprIn s g)
  | .descriptor i g => issueDescriptor i (driveGprIn s g)
  | .clearModify m => .next (clearModify s m)
  | .contextOr m => .next (contextOr s m)

/-- The state with a word at the front of what the dispatcher issues; the scalar it comes with is the value
`gpr_in` holds. -/
def pushWord (s : State) (w : Word32) : State := { s with input := .word w s.gprIn :: s.input }

end

end Sys2Proof.Machine
end

