-- ==== Sys2Proof/Machine/Step.lean ====
section
/-! DEFINITION. One step: the next event is taken from the input and carried out, as one atomic step
(70_reset R397, R399; 20_memory R67, R70). With no further event the run has ended. -/

namespace Sys2Proof.Machine

noncomputable section

/-- One step of the machine. -/
def step (s : State) : Host.Outcome State Fault Refusal :=
  match s.input with
  | [] => .refused .noInput
  | e :: rest => handle e { s with input := rest }

/-- `s` with the instruction whose bits are `w` as the next thing the dispatcher issues, before whatever it
would have issued (log 2). -/
def State.withFetchWord (s : State) (nbits w : Nat) : State := pushWord s (tableWord nbits w)

end

end Sys2Proof.Machine
end

