-- ==== Sys2Proof/Machine/Roles.lean ====
section
/-! DEFINITION. The operand roles of every instruction, as the rules' Operands lines give them: which wide
registers it reads, the one wide register it writes, and the general-purpose register its scalar result is
for (10_state R33, R36, R37; 30_encoding R82). -/

namespace Sys2Proof.Instr

/-- The wide register an instruction writes: at most one, `wd` (10_state R33). -/
def vecDest : Instr → Option Reg
  | .copySB _ _ _ | .copySH _ _ _ | .copySW _ _ _ | .copySD _ _ _ => none
  | .copyUB _ _ _ | .copyUH _ _ _ | .copyUW _ _ _ => none
  | .insertB wd _ _ | .insertH wd _ _ | .insertW wd _ _ | .insertD wd _ _ => some wd
  | .insveB wd _ _ | .insveH wd _ _ | .insveW wd _ _ | .insveD wd _ _ => some wd
  | .fillB wd _ | .fillH wd _ | .fillW wd _ | .fillD wd _ => some wd
  | .moveV wd _ => some wd
  | .addvB wd _ _ | .addvH wd _ _ | .addvW wd _ _ | .addvD wd _ _ => some wd
  | .addviB wd _ _ | .addviH wd _ _ | .addviW wd _ _ | .addviD wd _ _ => some wd
  | .subvB wd _ _ | .subvH wd _ _ | .subvW wd _ _ | .subvD wd _ _ => some wd
  | .subviB wd _ _ | .subviH wd _ _ | .subviW wd _ _ | .subviD wd _ _ => some wd
  | .addsSB wd _ _ | .addsSH wd _ _ | .addsSW wd _ _ | .addsSD wd _ _ => some wd
  | .addsUB wd _ _ | .addsUH wd _ _ | .addsUW wd _ _ | .addsUD wd _ _ => some wd
  | .subsSB wd _ _ | .subsSH wd _ _ | .subsSW wd _ _ | .subsSD wd _ _ => some wd
  | .subsUB wd _ _ | .subsUH wd _ _ | .subsUW wd _ _ | .subsUD wd _ _ => some wd
  | .subsusUB wd _ _ | .subsusUH wd _ _ | .subsusUW wd _ _ | .subsusUD wd _ _ => some wd
  | .subsuuSB wd _ _ | .subsuuSH wd _ _ | .subsuuSW wd _ _ | .subsuuSD wd _ _ => some wd
  | .asubSB wd _ _ | .asubSH wd _ _ | .asubSW wd _ _ | .asubSD wd _ _ => some wd
  | .asubUB wd _ _ | .asubUH wd _ _ | .asubUW wd _ _ | .asubUD wd _ _ => some wd
  | .addAB wd _ _ | .addAH wd _ _ | .addAW wd _ _ | .addAD wd _ _ => some wd
  | .addsAB wd _ _ | .addsAH wd _ _ | .addsAW wd _ _ | .addsAD wd _ _ => some wd
  | .aveSB wd _ _ | .aveSH wd _ _ | .aveSW wd _ _ | .aveSD wd _ _ => some wd
  | .aveUB wd _ _ | .aveUH wd _ _ | .aveUW wd _ _ | .aveUD wd _ _ => some wd
  | .averSB wd _ _ | .averSH wd _ _ | .averSW wd _ _ | .averSD wd _ _ => some wd
  | .averUB wd _ _ | .averUH wd _ _ | .averUW wd _ _ | .averUD wd _ _ => some wd
  | .maxAB wd _ _ | .maxAH wd _ _ | .maxAW wd _ _ | .maxAD wd _ _ => some wd
  | .minAB wd _ _ | .minAH wd _ _ | .minAW wd _ _ | .minAD wd _ _ => some wd
  | .maxSB wd _ _ | .maxSH wd _ _ | .maxSW wd _ _ | .maxSD wd _ _ => some wd
  | .maxUB wd _ _ | .maxUH wd _ _ | .maxUW wd _ _ | .maxUD wd _ _ => some wd
  | .minSB wd _ _ | .minSH wd _ _ | .minSW wd _ _ | .minSD wd _ _ => some wd
  | .minUB wd _ _ | .minUH wd _ _ | .minUW wd _ _ | .minUD wd _ _ => some wd
  | .maxiSB wd _ _ | .maxiSH wd _ _ | .maxiSW wd _ _ | .maxiSD wd _ _ => some wd
  | .maxiUB wd _ _ | .maxiUH wd _ _ | .maxiUW wd _ _ | .maxiUD wd _ _ => some wd
  | .miniSB wd _ _ | .miniSH wd _ _ | .miniSW wd _ _ | .miniSD wd _ _ => some wd
  | .miniUB wd _ _ | .miniUH wd _ _ | .miniUW wd _ _ | .miniUD wd _ _ => some wd
  | .ceqB wd _ _ | .ceqH wd _ _ | .ceqW wd _ _ | .ceqD wd _ _ => some wd
  | .ceqiB wd _ _ | .ceqiH wd _ _ | .ceqiW wd _ _ | .ceqiD wd _ _ => some wd
  | .cltSB wd _ _ | .cltSH wd _ _ | .cltSW wd _ _ | .cltSD wd _ _ => some wd
  | .cltUB wd _ _ | .cltUH wd _ _ | .cltUW wd _ _ | .cltUD wd _ _ => some wd
  | .cltiSB wd _ _ | .cltiSH wd _ _ | .cltiSW wd _ _ | .cltiSD wd _ _ => some wd
  | .cltiUB wd _ _ | .cltiUH wd _ _ | .cltiUW wd _ _ | .cltiUD wd _ _ => some wd
  | .cleSB wd _ _ | .cleSH wd _ _ | .cleSW wd _ _ | .cleSD wd _ _ => some wd
  | .cleUB wd _ _ | .cleUH wd _ _ | .cleUW wd _ _ | .cleUD wd _ _ => some wd
  | .cleiSB wd _ _ | .cleiSH wd _ _ | .cleiSW wd _ _ | .cleiSD wd _ _ => some wd
  | .cleiUB wd _ _ | .cleiUH wd _ _ | .cleiUW wd _ _ | .cleiUD wd _ _ => some wd
  | .haddSH wd _ _ | .haddSW wd _ _ | .haddSD wd _ _ => some wd
  | .haddUH wd _ _ | .haddUW wd _ _ | .haddUD wd _ _ => some wd
  | .hsubSH wd _ _ | .hsubSW wd _ _ | .hsubSD wd _ _ => some wd
  | .hsubUH wd _ _ | .hsubUW wd _ _ | .hsubUD wd _ _ => some wd
  | .dotpSH wd _ _ | .dotpSW wd _ _ | .dotpSD wd _ _ => some wd
  | .dotpUH wd _ _ | .dotpUW wd _ _ | .dotpUD wd _ _ => some wd
  | .dpaddSH wd _ _ | .dpaddSW wd _ _ | .dpaddSD wd _ _ => some wd
  | .dpaddUH wd _ _ | .dpaddUW wd _ _ | .dpaddUD wd _ _ => some wd
  | .dpsubSH wd _ _ | .dpsubSW wd _ _ | .dpsubSD wd _ _ => some wd
  | .dpsubUH wd _ _ | .dpsubUW wd _ _ | .dpsubUD wd _ _ => some wd
  | .mulvB wd _ _ | .mulvH wd _ _ | .mulvW wd _ _ | .mulvD wd _ _ => some wd
  | .maddvB wd _ _ | .maddvH wd _ _ | .maddvW wd _ _ | .maddvD wd _ _ => some wd
  | .msubvB wd _ _ | .msubvH wd _ _ | .msubvW wd _ _ | .msubvD wd _ _ => some wd
  | .divSB wd _ _ | .divSH wd _ _ | .divSW wd _ _ | .divSD wd _ _ => some wd
  | .divUB wd _ _ | .divUH wd _ _ | .divUW wd _ _ | .divUD wd _ _ => some wd
  | .modSB wd _ _ | .modSH wd _ _ | .modSW wd _ _ | .modSD wd _ _ => some wd
  | .modUB wd _ _ | .modUH wd _ _ | .modUW wd _ _ | .modUD wd _ _ => some wd
  | .mulQH wd _ _ | .mulQW wd _ _ => some wd
  | .mulrQH wd _ _ | .mulrQW wd _ _ => some wd
  | .maddQH wd _ _ | .maddQW wd _ _ => some wd
  | .maddrQH wd _ _ | .maddrQW wd _ _ => some wd
  | .msubQH wd _ _ | .msubQW wd _ _ => some wd
  | .msubrQH wd _ _ | .msubrQW wd _ _ => some wd
  | .bclrB wd _ _ | .bclrH wd _ _ | .bclrW wd _ _ | .bclrD wd _ _ => some wd
  | .bclriB wd _ _ | .bclriH wd _ _ | .bclriW wd _ _ | .bclriD wd _ _ => some wd
  | .bsetB wd _ _ | .bsetH wd _ _ | .bsetW wd _ _ | .bsetD wd _ _ => some wd
  | .bsetiB wd _ _ | .bsetiH wd _ _ | .bsetiW wd _ _ | .bsetiD wd _ _ => some wd
  | .bnegB wd _ _ | .bnegH wd _ _ | .bnegW wd _ _ | .bnegD wd _ _ => some wd
  | .bnegiB wd _ _ | .bnegiH wd _ _ | .bnegiW wd _ _ | .bnegiD wd _ _ => some wd
  | .binslB wd _ _ | .binslH wd _ _ | .binslW wd _ _ | .binslD wd _ _ => some wd
  | .binsliB wd _ _ | .binsliH wd _ _ | .binsliW wd _ _ | .binsliD wd _ _ => some wd
  | .binsrB wd _ _ | .binsrH wd _ _ | .binsrW wd _ _ | .binsrD wd _ _ => some wd
  | .binsriB wd _ _ | .binsriH wd _ _ | .binsriW wd _ _ | .binsriD wd _ _ => some wd
  | .satSB wd _ _ | .satSH wd _ _ | .satSW wd _ _ | .satSD wd _ _ => some wd
  | .satUB wd _ _ | .satUH wd _ _ | .satUW wd _ _ | .satUD wd _ _ => some wd
  | .pcntB wd _ | .pcntH wd _ | .pcntW wd _ | .pcntD wd _ => some wd
  | .nlocB wd _ | .nlocH wd _ | .nlocW wd _ | .nlocD wd _ => some wd
  | .nlzcB wd _ | .nlzcH wd _ | .nlzcW wd _ | .nlzcD wd _ => some wd
  | .andV wd _ _ => some wd
  | .orV wd _ _ => some wd
  | .norV wd _ _ => some wd
  | .xorV wd _ _ => some wd
  | .andiB wd _ _ => some wd
  | .oriB wd _ _ => some wd
  | .noriB wd _ _ => some wd
  | .xoriB wd _ _ => some wd
  | .bmnzV wd _ _ => some wd
  | .bmzV wd _ _ => some wd
  | .bselV wd _ _ => some wd
  | .bmnziB wd _ _ => some wd
  | .bmziB wd _ _ => some wd
  | .bseliB wd _ _ => some wd
  | .sllB wd _ _ | .sllH wd _ _ | .sllW wd _ _ | .sllD wd _ _ => some wd
  | .slliB wd _ _ | .slliH wd _ _ | .slliW wd _ _ | .slliD wd _ _ => some wd
  | .sraB wd _ _ | .sraH wd _ _ | .sraW wd _ _ | .sraD wd _ _ => some wd
  | .sraiB wd _ _ | .sraiH wd _ _ | .sraiW wd _ _ | .sraiD wd _ _ => some wd
  | .srlB wd _ _ | .srlH wd _ _ | .srlW wd _ _ | .srlD wd _ _ => some wd
  | .srliB wd _ _ | .srliH wd _ _ | .srliW wd _ _ | .srliD wd _ _ => some wd
  | .srarB wd _ _ | .srarH wd _ _ | .srarW wd _ _ | .srarD wd _ _ => some wd
  | .srariB wd _ _ | .srariH wd _ _ | .srariW wd _ _ | .srariD wd _ _ => some wd
  | .srlrB wd _ _ | .srlrH wd _ _ | .srlrW wd _ _ | .srlrD wd _ _ => some wd
  | .srlriB wd _ _ | .srlriH wd _ _ | .srlriW wd _ _ | .srlriD wd _ _ => some wd
  | .ilvevB wd _ _ | .ilvevH wd _ _ | .ilvevW wd _ _ | .ilvevD wd _ _ => some wd
  | .ilvodB wd _ _ | .ilvodH wd _ _ | .ilvodW wd _ _ | .ilvodD wd _ _ => some wd
  | .ilvlB wd _ _ | .ilvlH wd _ _ | .ilvlW wd _ _ | .ilvlD wd _ _ => some wd
  | .ilvrB wd _ _ | .ilvrH wd _ _ | .ilvrW wd _ _ | .ilvrD wd _ _ => some wd
  | .pckevB wd _ _ | .pckevH wd _ _ | .pckevW wd _ _ | .pckevD wd _ _ => some wd
  | .pckodB wd _ _ | .pckodH wd _ _ | .pckodW wd _ _ | .pckodD wd _ _ => some wd
  | .vshfB wd _ _ | .vshfH wd _ _ | .vshfW wd _ _ | .vshfD wd _ _ => some wd
  | .shfB wd _ _ | .shfH wd _ _ | .shfW wd _ _ => some wd
  | .sldB wd _ _ | .sldH wd _ _ | .sldW wd _ _ | .sldD wd _ _ => some wd
  | .sldiB wd _ _ | .sldiH wd _ _ | .sldiW wd _ _ | .sldiD wd _ _ => some wd
  | .splatB wd _ _ | .splatH wd _ _ | .splatW wd _ _ | .splatD wd _ _ => some wd
  | .splatiB wd _ _ | .splatiH wd _ _ | .splatiW wd _ _ | .splatiD wd _ _ => some wd
  | .ldiB wd _ | .ldiH wd _ | .ldiW wd _ | .ldiD wd _ => some wd

/-- The general-purpose register whose new value `gpr_out` carries: `rd` of `copy_s` and `copy_u`
(10_state R37). -/
def gprDest : Instr → Option Gpr
  | .copySB rd _ _ | .copySH rd _ _ | .copySW rd _ _ | .copySD rd _ _ => some rd
  | .copyUB rd _ _ | .copyUH rd _ _ | .copyUW rd _ _ => some rd
  | .insertB _ _ _ | .insertH _ _ _ | .insertW _ _ _ | .insertD _ _ _ => none
  | .insveB _ _ _ | .insveH _ _ _ | .insveW _ _ _ | .insveD _ _ _ => none
  | .fillB _ _ | .fillH _ _ | .fillW _ _ | .fillD _ _ => none
  | .moveV _ _ => none
  | .addvB _ _ _ | .addvH _ _ _ | .addvW _ _ _ | .addvD _ _ _ => none
  | .addviB _ _ _ | .addviH _ _ _ | .addviW _ _ _ | .addviD _ _ _ => none
  | .subvB _ _ _ | .subvH _ _ _ | .subvW _ _ _ | .subvD _ _ _ => none
  | .subviB _ _ _ | .subviH _ _ _ | .subviW _ _ _ | .subviD _ _ _ => none
  | .addsSB _ _ _ | .addsSH _ _ _ | .addsSW _ _ _ | .addsSD _ _ _ => none
  | .addsUB _ _ _ | .addsUH _ _ _ | .addsUW _ _ _ | .addsUD _ _ _ => none
  | .subsSB _ _ _ | .subsSH _ _ _ | .subsSW _ _ _ | .subsSD _ _ _ => none
  | .subsUB _ _ _ | .subsUH _ _ _ | .subsUW _ _ _ | .subsUD _ _ _ => none
  | .subsusUB _ _ _ | .subsusUH _ _ _ | .subsusUW _ _ _ | .subsusUD _ _ _ => none
  | .subsuuSB _ _ _ | .subsuuSH _ _ _ | .subsuuSW _ _ _ | .subsuuSD _ _ _ => none
  | .asubSB _ _ _ | .asubSH _ _ _ | .asubSW _ _ _ | .asubSD _ _ _ => none
  | .asubUB _ _ _ | .asubUH _ _ _ | .asubUW _ _ _ | .asubUD _ _ _ => none
  | .addAB _ _ _ | .addAH _ _ _ | .addAW _ _ _ | .addAD _ _ _ => none
  | .addsAB _ _ _ | .addsAH _ _ _ | .addsAW _ _ _ | .addsAD _ _ _ => none
  | .aveSB _ _ _ | .aveSH _ _ _ | .aveSW _ _ _ | .aveSD _ _ _ => none
  | .aveUB _ _ _ | .aveUH _ _ _ | .aveUW _ _ _ | .aveUD _ _ _ => none
  | .averSB _ _ _ | .averSH _ _ _ | .averSW _ _ _ | .averSD _ _ _ => none
  | .averUB _ _ _ | .averUH _ _ _ | .averUW _ _ _ | .averUD _ _ _ => none
  | .maxAB _ _ _ | .maxAH _ _ _ | .maxAW _ _ _ | .maxAD _ _ _ => none
  | .minAB _ _ _ | .minAH _ _ _ | .minAW _ _ _ | .minAD _ _ _ => none
  | .maxSB _ _ _ | .maxSH _ _ _ | .maxSW _ _ _ | .maxSD _ _ _ => none
  | .maxUB _ _ _ | .maxUH _ _ _ | .maxUW _ _ _ | .maxUD _ _ _ => none
  | .minSB _ _ _ | .minSH _ _ _ | .minSW _ _ _ | .minSD _ _ _ => none
  | .minUB _ _ _ | .minUH _ _ _ | .minUW _ _ _ | .minUD _ _ _ => none
  | .maxiSB _ _ _ | .maxiSH _ _ _ | .maxiSW _ _ _ | .maxiSD _ _ _ => none
  | .maxiUB _ _ _ | .maxiUH _ _ _ | .maxiUW _ _ _ | .maxiUD _ _ _ => none
  | .miniSB _ _ _ | .miniSH _ _ _ | .miniSW _ _ _ | .miniSD _ _ _ => none
  | .miniUB _ _ _ | .miniUH _ _ _ | .miniUW _ _ _ | .miniUD _ _ _ => none
  | .ceqB _ _ _ | .ceqH _ _ _ | .ceqW _ _ _ | .ceqD _ _ _ => none
  | .ceqiB _ _ _ | .ceqiH _ _ _ | .ceqiW _ _ _ | .ceqiD _ _ _ => none
  | .cltSB _ _ _ | .cltSH _ _ _ | .cltSW _ _ _ | .cltSD _ _ _ => none
  | .cltUB _ _ _ | .cltUH _ _ _ | .cltUW _ _ _ | .cltUD _ _ _ => none
  | .cltiSB _ _ _ | .cltiSH _ _ _ | .cltiSW _ _ _ | .cltiSD _ _ _ => none
  | .cltiUB _ _ _ | .cltiUH _ _ _ | .cltiUW _ _ _ | .cltiUD _ _ _ => none
  | .cleSB _ _ _ | .cleSH _ _ _ | .cleSW _ _ _ | .cleSD _ _ _ => none
  | .cleUB _ _ _ | .cleUH _ _ _ | .cleUW _ _ _ | .cleUD _ _ _ => none
  | .cleiSB _ _ _ | .cleiSH _ _ _ | .cleiSW _ _ _ | .cleiSD _ _ _ => none
  | .cleiUB _ _ _ | .cleiUH _ _ _ | .cleiUW _ _ _ | .cleiUD _ _ _ => none
  | .haddSH _ _ _ | .haddSW _ _ _ | .haddSD _ _ _ => none
  | .haddUH _ _ _ | .haddUW _ _ _ | .haddUD _ _ _ => none
  | .hsubSH _ _ _ | .hsubSW _ _ _ | .hsubSD _ _ _ => none
  | .hsubUH _ _ _ | .hsubUW _ _ _ | .hsubUD _ _ _ => none
  | .dotpSH _ _ _ | .dotpSW _ _ _ | .dotpSD _ _ _ => none
  | .dotpUH _ _ _ | .dotpUW _ _ _ | .dotpUD _ _ _ => none
  | .dpaddSH _ _ _ | .dpaddSW _ _ _ | .dpaddSD _ _ _ => none
  | .dpaddUH _ _ _ | .dpaddUW _ _ _ | .dpaddUD _ _ _ => none
  | .dpsubSH _ _ _ | .dpsubSW _ _ _ | .dpsubSD _ _ _ => none
  | .dpsubUH _ _ _ | .dpsubUW _ _ _ | .dpsubUD _ _ _ => none
  | .mulvB _ _ _ | .mulvH _ _ _ | .mulvW _ _ _ | .mulvD _ _ _ => none
  | .maddvB _ _ _ | .maddvH _ _ _ | .maddvW _ _ _ | .maddvD _ _ _ => none
  | .msubvB _ _ _ | .msubvH _ _ _ | .msubvW _ _ _ | .msubvD _ _ _ => none
  | .divSB _ _ _ | .divSH _ _ _ | .divSW _ _ _ | .divSD _ _ _ => none
  | .divUB _ _ _ | .divUH _ _ _ | .divUW _ _ _ | .divUD _ _ _ => none
  | .modSB _ _ _ | .modSH _ _ _ | .modSW _ _ _ | .modSD _ _ _ => none
  | .modUB _ _ _ | .modUH _ _ _ | .modUW _ _ _ | .modUD _ _ _ => none
  | .mulQH _ _ _ | .mulQW _ _ _ => none
  | .mulrQH _ _ _ | .mulrQW _ _ _ => none
  | .maddQH _ _ _ | .maddQW _ _ _ => none
  | .maddrQH _ _ _ | .maddrQW _ _ _ => none
  | .msubQH _ _ _ | .msubQW _ _ _ => none
  | .msubrQH _ _ _ | .msubrQW _ _ _ => none
  | .bclrB _ _ _ | .bclrH _ _ _ | .bclrW _ _ _ | .bclrD _ _ _ => none
  | .bclriB _ _ _ | .bclriH _ _ _ | .bclriW _ _ _ | .bclriD _ _ _ => none
  | .bsetB _ _ _ | .bsetH _ _ _ | .bsetW _ _ _ | .bsetD _ _ _ => none
  | .bsetiB _ _ _ | .bsetiH _ _ _ | .bsetiW _ _ _ | .bsetiD _ _ _ => none
  | .bnegB _ _ _ | .bnegH _ _ _ | .bnegW _ _ _ | .bnegD _ _ _ => none
  | .bnegiB _ _ _ | .bnegiH _ _ _ | .bnegiW _ _ _ | .bnegiD _ _ _ => none
  | .binslB _ _ _ | .binslH _ _ _ | .binslW _ _ _ | .binslD _ _ _ => none
  | .binsliB _ _ _ | .binsliH _ _ _ | .binsliW _ _ _ | .binsliD _ _ _ => none
  | .binsrB _ _ _ | .binsrH _ _ _ | .binsrW _ _ _ | .binsrD _ _ _ => none
  | .binsriB _ _ _ | .binsriH _ _ _ | .binsriW _ _ _ | .binsriD _ _ _ => none
  | .satSB _ _ _ | .satSH _ _ _ | .satSW _ _ _ | .satSD _ _ _ => none
  | .satUB _ _ _ | .satUH _ _ _ | .satUW _ _ _ | .satUD _ _ _ => none
  | .pcntB _ _ | .pcntH _ _ | .pcntW _ _ | .pcntD _ _ => none
  | .nlocB _ _ | .nlocH _ _ | .nlocW _ _ | .nlocD _ _ => none
  | .nlzcB _ _ | .nlzcH _ _ | .nlzcW _ _ | .nlzcD _ _ => none
  | .andV _ _ _ => none
  | .orV _ _ _ => none
  | .norV _ _ _ => none
  | .xorV _ _ _ => none
  | .andiB _ _ _ => none
  | .oriB _ _ _ => none
  | .noriB _ _ _ => none
  | .xoriB _ _ _ => none
  | .bmnzV _ _ _ => none
  | .bmzV _ _ _ => none
  | .bselV _ _ _ => none
  | .bmnziB _ _ _ => none
  | .bmziB _ _ _ => none
  | .bseliB _ _ _ => none
  | .sllB _ _ _ | .sllH _ _ _ | .sllW _ _ _ | .sllD _ _ _ => none
  | .slliB _ _ _ | .slliH _ _ _ | .slliW _ _ _ | .slliD _ _ _ => none
  | .sraB _ _ _ | .sraH _ _ _ | .sraW _ _ _ | .sraD _ _ _ => none
  | .sraiB _ _ _ | .sraiH _ _ _ | .sraiW _ _ _ | .sraiD _ _ _ => none
  | .srlB _ _ _ | .srlH _ _ _ | .srlW _ _ _ | .srlD _ _ _ => none
  | .srliB _ _ _ | .srliH _ _ _ | .srliW _ _ _ | .srliD _ _ _ => none
  | .srarB _ _ _ | .srarH _ _ _ | .srarW _ _ _ | .srarD _ _ _ => none
  | .srariB _ _ _ | .srariH _ _ _ | .srariW _ _ _ | .srariD _ _ _ => none
  | .srlrB _ _ _ | .srlrH _ _ _ | .srlrW _ _ _ | .srlrD _ _ _ => none
  | .srlriB _ _ _ | .srlriH _ _ _ | .srlriW _ _ _ | .srlriD _ _ _ => none
  | .ilvevB _ _ _ | .ilvevH _ _ _ | .ilvevW _ _ _ | .ilvevD _ _ _ => none
  | .ilvodB _ _ _ | .ilvodH _ _ _ | .ilvodW _ _ _ | .ilvodD _ _ _ => none
  | .ilvlB _ _ _ | .ilvlH _ _ _ | .ilvlW _ _ _ | .ilvlD _ _ _ => none
  | .ilvrB _ _ _ | .ilvrH _ _ _ | .ilvrW _ _ _ | .ilvrD _ _ _ => none
  | .pckevB _ _ _ | .pckevH _ _ _ | .pckevW _ _ _ | .pckevD _ _ _ => none
  | .pckodB _ _ _ | .pckodH _ _ _ | .pckodW _ _ _ | .pckodD _ _ _ => none
  | .vshfB _ _ _ | .vshfH _ _ _ | .vshfW _ _ _ | .vshfD _ _ _ => none
  | .shfB _ _ _ | .shfH _ _ _ | .shfW _ _ _ => none
  | .sldB _ _ _ | .sldH _ _ _ | .sldW _ _ _ | .sldD _ _ _ => none
  | .sldiB _ _ _ | .sldiH _ _ _ | .sldiW _ _ _ | .sldiD _ _ _ => none
  | .splatB _ _ _ | .splatH _ _ _ | .splatW _ _ _ | .splatD _ _ _ => none
  | .splatiB _ _ _ | .splatiH _ _ _ | .splatiW _ _ _ | .splatiD _ _ _ => none
  | .ldiB _ _ | .ldiH _ _ | .ldiW _ _ | .ldiD _ _ => none

/-- The wide registers an instruction reads: those its rule names as sources, `wd` among them for the
accumulator-implicit operations (10_state R33, 30_encoding R82). -/
def sources : Instr → List Reg
  | .copySB _ ws _ | .copySH _ ws _ | .copySW _ ws _ | .copySD _ ws _ => [ws]
  | .copyUB _ ws _ | .copyUH _ ws _ | .copyUW _ ws _ => [ws]
  | .insertB wd _ _ | .insertH wd _ _ | .insertW wd _ _ | .insertD wd _ _ => [wd]
  | .insveB wd ws _ | .insveH wd ws _ | .insveW wd ws _ | .insveD wd ws _ => [wd, ws]
  | .fillB _ _ | .fillH _ _ | .fillW _ _ | .fillD _ _ => []
  | .moveV _ ws => [ws]
  | .addvB _ ws wt | .addvH _ ws wt | .addvW _ ws wt | .addvD _ ws wt => [ws, wt]
  | .addviB _ ws _ | .addviH _ ws _ | .addviW _ ws _ | .addviD _ ws _ => [ws]
  | .subvB _ ws wt | .subvH _ ws wt | .subvW _ ws wt | .subvD _ ws wt => [ws, wt]
  | .subviB _ ws _ | .subviH _ ws _ | .subviW _ ws _ | .subviD _ ws _ => [ws]
  | .addsSB _ ws wt | .addsSH _ ws wt | .addsSW _ ws wt | .addsSD _ ws wt => [ws, wt]
  | .addsUB _ ws wt | .addsUH _ ws wt | .addsUW _ ws wt | .addsUD _ ws wt => [ws, wt]
  | .subsSB _ ws wt | .subsSH _ ws wt | .subsSW _ ws wt | .subsSD _ ws wt => [ws, wt]
  | .subsUB _ ws wt | .subsUH _ ws wt | .subsUW _ ws wt | .subsUD _ ws wt => [ws, wt]
  | .subsusUB _ ws wt | .subsusUH _ ws wt | .subsusUW _ ws wt | .subsusUD _ ws wt => [ws, wt]
  | .subsuuSB _ ws wt | .subsuuSH _ ws wt | .subsuuSW _ ws wt | .subsuuSD _ ws wt => [ws, wt]
  | .asubSB _ ws wt | .asubSH _ ws wt | .asubSW _ ws wt | .asubSD _ ws wt => [ws, wt]
  | .asubUB _ ws wt | .asubUH _ ws wt | .asubUW _ ws wt | .asubUD _ ws wt => [ws, wt]
  | .addAB _ ws wt | .addAH _ ws wt | .addAW _ ws wt | .addAD _ ws wt => [ws, wt]
  | .addsAB _ ws wt | .addsAH _ ws wt | .addsAW _ ws wt | .addsAD _ ws wt => [ws, wt]
  | .aveSB _ ws wt | .aveSH _ ws wt | .aveSW _ ws wt | .aveSD _ ws wt => [ws, wt]
  | .aveUB _ ws wt | .aveUH _ ws wt | .aveUW _ ws wt | .aveUD _ ws wt => [ws, wt]
  | .averSB _ ws wt | .averSH _ ws wt | .averSW _ ws wt | .averSD _ ws wt => [ws, wt]
  | .averUB _ ws wt | .averUH _ ws wt | .averUW _ ws wt | .averUD _ ws wt => [ws, wt]
  | .maxAB _ ws wt | .maxAH _ ws wt | .maxAW _ ws wt | .maxAD _ ws wt => [ws, wt]
  | .minAB _ ws wt | .minAH _ ws wt | .minAW _ ws wt | .minAD _ ws wt => [ws, wt]
  | .maxSB _ ws wt | .maxSH _ ws wt | .maxSW _ ws wt | .maxSD _ ws wt => [ws, wt]
  | .maxUB _ ws wt | .maxUH _ ws wt | .maxUW _ ws wt | .maxUD _ ws wt => [ws, wt]
  | .minSB _ ws wt | .minSH _ ws wt | .minSW _ ws wt | .minSD _ ws wt => [ws, wt]
  | .minUB _ ws wt | .minUH _ ws wt | .minUW _ ws wt | .minUD _ ws wt => [ws, wt]
  | .maxiSB _ ws _ | .maxiSH _ ws _ | .maxiSW _ ws _ | .maxiSD _ ws _ => [ws]
  | .maxiUB _ ws _ | .maxiUH _ ws _ | .maxiUW _ ws _ | .maxiUD _ ws _ => [ws]
  | .miniSB _ ws _ | .miniSH _ ws _ | .miniSW _ ws _ | .miniSD _ ws _ => [ws]
  | .miniUB _ ws _ | .miniUH _ ws _ | .miniUW _ ws _ | .miniUD _ ws _ => [ws]
  | .ceqB _ ws wt | .ceqH _ ws wt | .ceqW _ ws wt | .ceqD _ ws wt => [ws, wt]
  | .ceqiB _ ws _ | .ceqiH _ ws _ | .ceqiW _ ws _ | .ceqiD _ ws _ => [ws]
  | .cltSB _ ws wt | .cltSH _ ws wt | .cltSW _ ws wt | .cltSD _ ws wt => [ws, wt]
  | .cltUB _ ws wt | .cltUH _ ws wt | .cltUW _ ws wt | .cltUD _ ws wt => [ws, wt]
  | .cltiSB _ ws _ | .cltiSH _ ws _ | .cltiSW _ ws _ | .cltiSD _ ws _ => [ws]
  | .cltiUB _ ws _ | .cltiUH _ ws _ | .cltiUW _ ws _ | .cltiUD _ ws _ => [ws]
  | .cleSB _ ws wt | .cleSH _ ws wt | .cleSW _ ws wt | .cleSD _ ws wt => [ws, wt]
  | .cleUB _ ws wt | .cleUH _ ws wt | .cleUW _ ws wt | .cleUD _ ws wt => [ws, wt]
  | .cleiSB _ ws _ | .cleiSH _ ws _ | .cleiSW _ ws _ | .cleiSD _ ws _ => [ws]
  | .cleiUB _ ws _ | .cleiUH _ ws _ | .cleiUW _ ws _ | .cleiUD _ ws _ => [ws]
  | .haddSH _ ws wt | .haddSW _ ws wt | .haddSD _ ws wt => [ws, wt]
  | .haddUH _ ws wt | .haddUW _ ws wt | .haddUD _ ws wt => [ws, wt]
  | .hsubSH _ ws wt | .hsubSW _ ws wt | .hsubSD _ ws wt => [ws, wt]
  | .hsubUH _ ws wt | .hsubUW _ ws wt | .hsubUD _ ws wt => [ws, wt]
  | .dotpSH _ ws wt | .dotpSW _ ws wt | .dotpSD _ ws wt => [ws, wt]
  | .dotpUH _ ws wt | .dotpUW _ ws wt | .dotpUD _ ws wt => [ws, wt]
  | .dpaddSH wd ws wt | .dpaddSW wd ws wt | .dpaddSD wd ws wt => [wd, ws, wt]
  | .dpaddUH wd ws wt | .dpaddUW wd ws wt | .dpaddUD wd ws wt => [wd, ws, wt]
  | .dpsubSH wd ws wt | .dpsubSW wd ws wt | .dpsubSD wd ws wt => [wd, ws, wt]
  | .dpsubUH wd ws wt | .dpsubUW wd ws wt | .dpsubUD wd ws wt => [wd, ws, wt]
  | .mulvB _ ws wt | .mulvH _ ws wt | .mulvW _ ws wt | .mulvD _ ws wt => [ws, wt]
  | .maddvB wd ws wt | .maddvH wd ws wt | .maddvW wd ws wt | .maddvD wd ws wt => [wd, ws, wt]
  | .msubvB wd ws wt | .msubvH wd ws wt | .msubvW wd ws wt | .msubvD wd ws wt => [wd, ws, wt]
  | .divSB _ ws wt | .divSH _ ws wt | .divSW _ ws wt | .divSD _ ws wt => [ws, wt]
  | .divUB _ ws wt | .divUH _ ws wt | .divUW _ ws wt | .divUD _ ws wt => [ws, wt]
  | .modSB _ ws wt | .modSH _ ws wt | .modSW _ ws wt | .modSD _ ws wt => [ws, wt]
  | .modUB _ ws wt | .modUH _ ws wt | .modUW _ ws wt | .modUD _ ws wt => [ws, wt]
  | .mulQH _ ws wt | .mulQW _ ws wt => [ws, wt]
  | .mulrQH _ ws wt | .mulrQW _ ws wt => [ws, wt]
  | .maddQH wd ws wt | .maddQW wd ws wt => [wd, ws, wt]
  | .maddrQH wd ws wt | .maddrQW wd ws wt => [wd, ws, wt]
  | .msubQH wd ws wt | .msubQW wd ws wt => [wd, ws, wt]
  | .msubrQH wd ws wt | .msubrQW wd ws wt => [wd, ws, wt]
  | .bclrB _ ws wt | .bclrH _ ws wt | .bclrW _ ws wt | .bclrD _ ws wt => [ws, wt]
  | .bclriB _ ws _ | .bclriH _ ws _ | .bclriW _ ws _ | .bclriD _ ws _ => [ws]
  | .bsetB _ ws wt | .bsetH _ ws wt | .bsetW _ ws wt | .bsetD _ ws wt => [ws, wt]
  | .bsetiB _ ws _ | .bsetiH _ ws _ | .bsetiW _ ws _ | .bsetiD _ ws _ => [ws]
  | .bnegB _ ws wt | .bnegH _ ws wt | .bnegW _ ws wt | .bnegD _ ws wt => [ws, wt]
  | .bnegiB _ ws _ | .bnegiH _ ws _ | .bnegiW _ ws _ | .bnegiD _ ws _ => [ws]
  | .binslB wd ws wt | .binslH wd ws wt | .binslW wd ws wt | .binslD wd ws wt => [wd, ws, wt]
  | .binsliB wd ws _ | .binsliH wd ws _ | .binsliW wd ws _ | .binsliD wd ws _ => [wd, ws]
  | .binsrB wd ws wt | .binsrH wd ws wt | .binsrW wd ws wt | .binsrD wd ws wt => [wd, ws, wt]
  | .binsriB wd ws _ | .binsriH wd ws _ | .binsriW wd ws _ | .binsriD wd ws _ => [wd, ws]
  | .satSB _ ws _ | .satSH _ ws _ | .satSW _ ws _ | .satSD _ ws _ => [ws]
  | .satUB _ ws _ | .satUH _ ws _ | .satUW _ ws _ | .satUD _ ws _ => [ws]
  | .pcntB _ ws | .pcntH _ ws | .pcntW _ ws | .pcntD _ ws => [ws]
  | .nlocB _ ws | .nlocH _ ws | .nlocW _ ws | .nlocD _ ws => [ws]
  | .nlzcB _ ws | .nlzcH _ ws | .nlzcW _ ws | .nlzcD _ ws => [ws]
  | .andV _ ws wt => [ws, wt]
  | .orV _ ws wt => [ws, wt]
  | .norV _ ws wt => [ws, wt]
  | .xorV _ ws wt => [ws, wt]
  | .andiB _ ws _ => [ws]
  | .oriB _ ws _ => [ws]
  | .noriB _ ws _ => [ws]
  | .xoriB _ ws _ => [ws]
  | .bmnzV wd ws wt => [wd, ws, wt]
  | .bmzV wd ws wt => [wd, ws, wt]
  | .bselV wd ws wt => [wd, ws, wt]
  | .bmnziB wd ws _ => [wd, ws]
  | .bmziB wd ws _ => [wd, ws]
  | .bseliB wd ws _ => [wd, ws]
  | .sllB _ ws wt | .sllH _ ws wt | .sllW _ ws wt | .sllD _ ws wt => [ws, wt]
  | .slliB _ ws _ | .slliH _ ws _ | .slliW _ ws _ | .slliD _ ws _ => [ws]
  | .sraB _ ws wt | .sraH _ ws wt | .sraW _ ws wt | .sraD _ ws wt => [ws, wt]
  | .sraiB _ ws _ | .sraiH _ ws _ | .sraiW _ ws _ | .sraiD _ ws _ => [ws]
  | .srlB _ ws wt | .srlH _ ws wt | .srlW _ ws wt | .srlD _ ws wt => [ws, wt]
  | .srliB _ ws _ | .srliH _ ws _ | .srliW _ ws _ | .srliD _ ws _ => [ws]
  | .srarB _ ws wt | .srarH _ ws wt | .srarW _ ws wt | .srarD _ ws wt => [ws, wt]
  | .srariB _ ws _ | .srariH _ ws _ | .srariW _ ws _ | .srariD _ ws _ => [ws]
  | .srlrB _ ws wt | .srlrH _ ws wt | .srlrW _ ws wt | .srlrD _ ws wt => [ws, wt]
  | .srlriB _ ws _ | .srlriH _ ws _ | .srlriW _ ws _ | .srlriD _ ws _ => [ws]
  | .ilvevB _ ws wt | .ilvevH _ ws wt | .ilvevW _ ws wt | .ilvevD _ ws wt => [ws, wt]
  | .ilvodB _ ws wt | .ilvodH _ ws wt | .ilvodW _ ws wt | .ilvodD _ ws wt => [ws, wt]
  | .ilvlB _ ws wt | .ilvlH _ ws wt | .ilvlW _ ws wt | .ilvlD _ ws wt => [ws, wt]
  | .ilvrB _ ws wt | .ilvrH _ ws wt | .ilvrW _ ws wt | .ilvrD _ ws wt => [ws, wt]
  | .pckevB _ ws wt | .pckevH _ ws wt | .pckevW _ ws wt | .pckevD _ ws wt => [ws, wt]
  | .pckodB _ ws wt | .pckodH _ ws wt | .pckodW _ ws wt | .pckodD _ ws wt => [ws, wt]
  | .vshfB wd ws wt | .vshfH wd ws wt | .vshfW wd ws wt | .vshfD wd ws wt => [wd, ws, wt]
  | .shfB _ ws _ | .shfH _ ws _ | .shfW _ ws _ => [ws]
  | .sldB wd ws _ | .sldH wd ws _ | .sldW wd ws _ | .sldD wd ws _ => [wd, ws]
  | .sldiB wd ws _ | .sldiH wd ws _ | .sldiW wd ws _ | .sldiD wd ws _ => [wd, ws]
  | .splatB _ ws _ | .splatH _ ws _ | .splatW _ ws _ | .splatD _ ws _ => [ws]
  | .splatiB _ ws _ | .splatiH _ ws _ | .splatiW _ ws _ | .splatiD _ ws _ => [ws]
  | .ldiB _ _ | .ldiH _ _ | .ldiW _ _ | .ldiD _ _ => []

/-- Whether an instruction takes the scalar operand `gpr_in` (10_state R36). -/
def readsGprIn : Instr → Bool
  | .copySB _ _ _ | .copySH _ _ _ | .copySW _ _ _ | .copySD _ _ _ => false
  | .copyUB _ _ _ | .copyUH _ _ _ | .copyUW _ _ _ => false
  | .insertB _ _ _ | .insertH _ _ _ | .insertW _ _ _ | .insertD _ _ _ => true
  | .insveB _ _ _ | .insveH _ _ _ | .insveW _ _ _ | .insveD _ _ _ => false
  | .fillB _ _ | .fillH _ _ | .fillW _ _ | .fillD _ _ => true
  | .moveV _ _ => false
  | .addvB _ _ _ | .addvH _ _ _ | .addvW _ _ _ | .addvD _ _ _ => false
  | .addviB _ _ _ | .addviH _ _ _ | .addviW _ _ _ | .addviD _ _ _ => false
  | .subvB _ _ _ | .subvH _ _ _ | .subvW _ _ _ | .subvD _ _ _ => false
  | .subviB _ _ _ | .subviH _ _ _ | .subviW _ _ _ | .subviD _ _ _ => false
  | .addsSB _ _ _ | .addsSH _ _ _ | .addsSW _ _ _ | .addsSD _ _ _ => false
  | .addsUB _ _ _ | .addsUH _ _ _ | .addsUW _ _ _ | .addsUD _ _ _ => false
  | .subsSB _ _ _ | .subsSH _ _ _ | .subsSW _ _ _ | .subsSD _ _ _ => false
  | .subsUB _ _ _ | .subsUH _ _ _ | .subsUW _ _ _ | .subsUD _ _ _ => false
  | .subsusUB _ _ _ | .subsusUH _ _ _ | .subsusUW _ _ _ | .subsusUD _ _ _ => false
  | .subsuuSB _ _ _ | .subsuuSH _ _ _ | .subsuuSW _ _ _ | .subsuuSD _ _ _ => false
  | .asubSB _ _ _ | .asubSH _ _ _ | .asubSW _ _ _ | .asubSD _ _ _ => false
  | .asubUB _ _ _ | .asubUH _ _ _ | .asubUW _ _ _ | .asubUD _ _ _ => false
  | .addAB _ _ _ | .addAH _ _ _ | .addAW _ _ _ | .addAD _ _ _ => false
  | .addsAB _ _ _ | .addsAH _ _ _ | .addsAW _ _ _ | .addsAD _ _ _ => false
  | .aveSB _ _ _ | .aveSH _ _ _ | .aveSW _ _ _ | .aveSD _ _ _ => false
  | .aveUB _ _ _ | .aveUH _ _ _ | .aveUW _ _ _ | .aveUD _ _ _ => false
  | .averSB _ _ _ | .averSH _ _ _ | .averSW _ _ _ | .averSD _ _ _ => false
  | .averUB _ _ _ | .averUH _ _ _ | .averUW _ _ _ | .averUD _ _ _ => false
  | .maxAB _ _ _ | .maxAH _ _ _ | .maxAW _ _ _ | .maxAD _ _ _ => false
  | .minAB _ _ _ | .minAH _ _ _ | .minAW _ _ _ | .minAD _ _ _ => false
  | .maxSB _ _ _ | .maxSH _ _ _ | .maxSW _ _ _ | .maxSD _ _ _ => false
  | .maxUB _ _ _ | .maxUH _ _ _ | .maxUW _ _ _ | .maxUD _ _ _ => false
  | .minSB _ _ _ | .minSH _ _ _ | .minSW _ _ _ | .minSD _ _ _ => false
  | .minUB _ _ _ | .minUH _ _ _ | .minUW _ _ _ | .minUD _ _ _ => false
  | .maxiSB _ _ _ | .maxiSH _ _ _ | .maxiSW _ _ _ | .maxiSD _ _ _ => false
  | .maxiUB _ _ _ | .maxiUH _ _ _ | .maxiUW _ _ _ | .maxiUD _ _ _ => false
  | .miniSB _ _ _ | .miniSH _ _ _ | .miniSW _ _ _ | .miniSD _ _ _ => false
  | .miniUB _ _ _ | .miniUH _ _ _ | .miniUW _ _ _ | .miniUD _ _ _ => false
  | .ceqB _ _ _ | .ceqH _ _ _ | .ceqW _ _ _ | .ceqD _ _ _ => false
  | .ceqiB _ _ _ | .ceqiH _ _ _ | .ceqiW _ _ _ | .ceqiD _ _ _ => false
  | .cltSB _ _ _ | .cltSH _ _ _ | .cltSW _ _ _ | .cltSD _ _ _ => false
  | .cltUB _ _ _ | .cltUH _ _ _ | .cltUW _ _ _ | .cltUD _ _ _ => false
  | .cltiSB _ _ _ | .cltiSH _ _ _ | .cltiSW _ _ _ | .cltiSD _ _ _ => false
  | .cltiUB _ _ _ | .cltiUH _ _ _ | .cltiUW _ _ _ | .cltiUD _ _ _ => false
  | .cleSB _ _ _ | .cleSH _ _ _ | .cleSW _ _ _ | .cleSD _ _ _ => false
  | .cleUB _ _ _ | .cleUH _ _ _ | .cleUW _ _ _ | .cleUD _ _ _ => false
  | .cleiSB _ _ _ | .cleiSH _ _ _ | .cleiSW _ _ _ | .cleiSD _ _ _ => false
  | .cleiUB _ _ _ | .cleiUH _ _ _ | .cleiUW _ _ _ | .cleiUD _ _ _ => false
  | .haddSH _ _ _ | .haddSW _ _ _ | .haddSD _ _ _ => false
  | .haddUH _ _ _ | .haddUW _ _ _ | .haddUD _ _ _ => false
  | .hsubSH _ _ _ | .hsubSW _ _ _ | .hsubSD _ _ _ => false
  | .hsubUH _ _ _ | .hsubUW _ _ _ | .hsubUD _ _ _ => false
  | .dotpSH _ _ _ | .dotpSW _ _ _ | .dotpSD _ _ _ => false
  | .dotpUH _ _ _ | .dotpUW _ _ _ | .dotpUD _ _ _ => false
  | .dpaddSH _ _ _ | .dpaddSW _ _ _ | .dpaddSD _ _ _ => false
  | .dpaddUH _ _ _ | .dpaddUW _ _ _ | .dpaddUD _ _ _ => false
  | .dpsubSH _ _ _ | .dpsubSW _ _ _ | .dpsubSD _ _ _ => false
  | .dpsubUH _ _ _ | .dpsubUW _ _ _ | .dpsubUD _ _ _ => false
  | .mulvB _ _ _ | .mulvH _ _ _ | .mulvW _ _ _ | .mulvD _ _ _ => false
  | .maddvB _ _ _ | .maddvH _ _ _ | .maddvW _ _ _ | .maddvD _ _ _ => false
  | .msubvB _ _ _ | .msubvH _ _ _ | .msubvW _ _ _ | .msubvD _ _ _ => false
  | .divSB _ _ _ | .divSH _ _ _ | .divSW _ _ _ | .divSD _ _ _ => false
  | .divUB _ _ _ | .divUH _ _ _ | .divUW _ _ _ | .divUD _ _ _ => false
  | .modSB _ _ _ | .modSH _ _ _ | .modSW _ _ _ | .modSD _ _ _ => false
  | .modUB _ _ _ | .modUH _ _ _ | .modUW _ _ _ | .modUD _ _ _ => false
  | .mulQH _ _ _ | .mulQW _ _ _ => false
  | .mulrQH _ _ _ | .mulrQW _ _ _ => false
  | .maddQH _ _ _ | .maddQW _ _ _ => false
  | .maddrQH _ _ _ | .maddrQW _ _ _ => false
  | .msubQH _ _ _ | .msubQW _ _ _ => false
  | .msubrQH _ _ _ | .msubrQW _ _ _ => false
  | .bclrB _ _ _ | .bclrH _ _ _ | .bclrW _ _ _ | .bclrD _ _ _ => false
  | .bclriB _ _ _ | .bclriH _ _ _ | .bclriW _ _ _ | .bclriD _ _ _ => false
  | .bsetB _ _ _ | .bsetH _ _ _ | .bsetW _ _ _ | .bsetD _ _ _ => false
  | .bsetiB _ _ _ | .bsetiH _ _ _ | .bsetiW _ _ _ | .bsetiD _ _ _ => false
  | .bnegB _ _ _ | .bnegH _ _ _ | .bnegW _ _ _ | .bnegD _ _ _ => false
  | .bnegiB _ _ _ | .bnegiH _ _ _ | .bnegiW _ _ _ | .bnegiD _ _ _ => false
  | .binslB _ _ _ | .binslH _ _ _ | .binslW _ _ _ | .binslD _ _ _ => false
  | .binsliB _ _ _ | .binsliH _ _ _ | .binsliW _ _ _ | .binsliD _ _ _ => false
  | .binsrB _ _ _ | .binsrH _ _ _ | .binsrW _ _ _ | .binsrD _ _ _ => false
  | .binsriB _ _ _ | .binsriH _ _ _ | .binsriW _ _ _ | .binsriD _ _ _ => false
  | .satSB _ _ _ | .satSH _ _ _ | .satSW _ _ _ | .satSD _ _ _ => false
  | .satUB _ _ _ | .satUH _ _ _ | .satUW _ _ _ | .satUD _ _ _ => false
  | .pcntB _ _ | .pcntH _ _ | .pcntW _ _ | .pcntD _ _ => false
  | .nlocB _ _ | .nlocH _ _ | .nlocW _ _ | .nlocD _ _ => false
  | .nlzcB _ _ | .nlzcH _ _ | .nlzcW _ _ | .nlzcD _ _ => false
  | .andV _ _ _ => false
  | .orV _ _ _ => false
  | .norV _ _ _ => false
  | .xorV _ _ _ => false
  | .andiB _ _ _ => false
  | .oriB _ _ _ => false
  | .noriB _ _ _ => false
  | .xoriB _ _ _ => false
  | .bmnzV _ _ _ => false
  | .bmzV _ _ _ => false
  | .bselV _ _ _ => false
  | .bmnziB _ _ _ => false
  | .bmziB _ _ _ => false
  | .bseliB _ _ _ => false
  | .sllB _ _ _ | .sllH _ _ _ | .sllW _ _ _ | .sllD _ _ _ => false
  | .slliB _ _ _ | .slliH _ _ _ | .slliW _ _ _ | .slliD _ _ _ => false
  | .sraB _ _ _ | .sraH _ _ _ | .sraW _ _ _ | .sraD _ _ _ => false
  | .sraiB _ _ _ | .sraiH _ _ _ | .sraiW _ _ _ | .sraiD _ _ _ => false
  | .srlB _ _ _ | .srlH _ _ _ | .srlW _ _ _ | .srlD _ _ _ => false
  | .srliB _ _ _ | .srliH _ _ _ | .srliW _ _ _ | .srliD _ _ _ => false
  | .srarB _ _ _ | .srarH _ _ _ | .srarW _ _ _ | .srarD _ _ _ => false
  | .srariB _ _ _ | .srariH _ _ _ | .srariW _ _ _ | .srariD _ _ _ => false
  | .srlrB _ _ _ | .srlrH _ _ _ | .srlrW _ _ _ | .srlrD _ _ _ => false
  | .srlriB _ _ _ | .srlriH _ _ _ | .srlriW _ _ _ | .srlriD _ _ _ => false
  | .ilvevB _ _ _ | .ilvevH _ _ _ | .ilvevW _ _ _ | .ilvevD _ _ _ => false
  | .ilvodB _ _ _ | .ilvodH _ _ _ | .ilvodW _ _ _ | .ilvodD _ _ _ => false
  | .ilvlB _ _ _ | .ilvlH _ _ _ | .ilvlW _ _ _ | .ilvlD _ _ _ => false
  | .ilvrB _ _ _ | .ilvrH _ _ _ | .ilvrW _ _ _ | .ilvrD _ _ _ => false
  | .pckevB _ _ _ | .pckevH _ _ _ | .pckevW _ _ _ | .pckevD _ _ _ => false
  | .pckodB _ _ _ | .pckodH _ _ _ | .pckodW _ _ _ | .pckodD _ _ _ => false
  | .vshfB _ _ _ | .vshfH _ _ _ | .vshfW _ _ _ | .vshfD _ _ _ => false
  | .shfB _ _ _ | .shfH _ _ _ | .shfW _ _ _ => false
  | .sldB _ _ _ | .sldH _ _ _ | .sldW _ _ _ | .sldD _ _ _ => true
  | .sldiB _ _ _ | .sldiH _ _ _ | .sldiW _ _ _ | .sldiD _ _ _ => false
  | .splatB _ _ _ | .splatH _ _ _ | .splatW _ _ _ | .splatD _ _ _ => true
  | .splatiB _ _ _ | .splatiH _ _ _ | .splatiW _ _ _ | .splatiD _ _ _ => false
  | .ldiB _ _ | .ldiH _ _ | .ldiW _ _ | .ldiD _ _ => false

end Sys2Proof.Instr
end

