-- ==== Sys2Proof/Safety.lean ====
section
/-! DEFINITION. The terms claims use: the state a completed operation leaves, what it is for an instruction to
write given lanes, and what a safe run is. -/

namespace Sys2Proof

open Machine

/-- The state after a completed operation whose result is `V` in `wd`: the register written, and its bit of
`MODIFY` set when tracking is on; nothing else changes (10_state R33, 40 R141). -/
def commit (s : State) (wd : Reg) (V : Vec) : State := signalModified (s.wr wd V) wd

/-- One row of the opcode table: the word `w` spells `i`, and `exec i` completes at `s`, all it does being to
write `wd` with a value `V` that `P` describes. Every register but `wd`, every bit of `MODIFY` but the one
for `wd`, the ports, the parameters, the input and the faults are as `commit` leaves them: unchanged. -/
def RowCommits (w : Word32) (i : Instr) (s : State) (wd : Reg) (P : Vec → Prop) : Prop :=
  decode w = .ok i ∧ ∃ V : Vec, exec i s = .next (commit s wd V) ∧ P V

/-- A row whose result is given lane by lane: lane `k` of format `df` becomes `trunc(f k)`. The lanes of one
format are the whole register, so this gives the next state. -/
def RowLanes (w : Word32) (i : Instr) (s : State) (wd : Reg) (df : Fmt) (f : Nat → Int) : Prop :=
  RowCommits w i s wd fun V => ∀ k, k < laneCount df → lane V df k = trunc df (f k)

/-- A row whose result is given bit by bit within each lane: bit `j` of lane `k` becomes `f k j`. -/
def RowBits (w : Word32) (i : Instr) (s : State) (wd : Reg) (df : Fmt) (f : Nat → Nat → Bool) : Prop :=
  RowCommits w i s wd fun V =>
    ∀ k j, k < laneCount df → j < laneBits df → (lane V df k).getLsbD j = f k j

/-- The scalar result port after `v` is driven for `rd`: `trunc_GPRLEN(v)` (40 R146). -/
def scalarOut (s : State) (rd : Gpr) (v : Int) : ScalarOut :=
  { rd := rd, value := BitVec.ofInt 64 (v % 2 ^ s.params.gprLen.bits) }

/-- An event that carries no out-of-range lane index: every word, and every descriptor whose lane index is
in range (30_encoding R84). -/
def Machine.Event.indexOk : Event → Bool
  | .word _ _ => true
  | .descriptor i _ => i.laneIndexOk
  | .clearModify _ => true
  | .contextOr _ => true

/-- The words that R86 and R99 to R107 mark reserved, by their fields: reserved minor opcodes, reserved
operation fields, reserved df, df/m and df/n fields, and the formats an operation does not have. -/
def ReservedWord (x : Nat) : Prop :=
  let minor := field x 5 0
  let op3 := field x 25 23
  let op2 := field x 25 24
  let op4 := field x 25 22
  let op5 := field x 25 21
  let df := field x 22 21
  let dfm := field x 22 16
  let dfn := field x 21 16
  -- R86: every minor opcode the table does not list
  minor ∈ [3, 4, 5, 8, 11, 12, 22, 23, 24, 29, 31] ∨ 40 ≤ minor
  -- R99: reserved 3R operations
  ∨ (minor = 15 ∧ op3 ∈ [1, 6, 7]) ∨ (minor = 17 ∧ op3 ∈ [6, 7]) ∨ (minor = 18 ∧ op3 = 3)
  ∨ (minor = 19 ∧ op3 ∈ [6, 7]) ∨ (minor = 21 ∧ op3 = 3)
  -- R107: the dot products and the horizontal operations have no byte form
  ∨ (minor = 19 ∧ df = 0) ∨ (minor = 21 ∧ 4 ≤ op3 ∧ df = 0)
  -- R100, R101, R102: reserved I5, BIT and I8 operations
  ∨ (minor = 6 ∧ op3 ∈ [6, 7]) ∨ (minor = 7 ∧ op3 ∈ [1, 7]) ∨ (minor = 10 ∧ 4 ≤ op3)
  ∨ (minor ∈ [1, 2] ∧ op2 = 3)
  -- R91: df/m = 1111xxx
  ∨ (minor ∈ [9, 10] ∧ 120 ≤ dfm)
  -- R92, R103, R107: df/n patterns and ELM operations
  ∨ (minor = 25 ∧ ((16 ≤ dfn ∧ dfn < 32) ∨ (40 ≤ dfn ∧ dfn < 48) ∨ (52 ≤ dfn ∧ dfn < 56)
      ∨ (58 ≤ dfn ∧ dfn < 62) ∨ dfn = 63))
  ∨ (minor = 25 ∧ dfn ≠ 62 ∧ 6 ≤ op4) ∨ (minor = 25 ∧ dfn = 62 ∧ 3 ≤ op4)
  ∨ (minor = 25 ∧ op4 = 3 ∧ 56 ≤ dfn ∧ dfn < 58)
  -- R104: reserved VEC and 2R operations
  ∨ (minor = 30 ∧ ((7 ≤ op5 ∧ op5 < 24) ∨ 26 ≤ op5)) ∨ (minor = 30 ∧ op5 = 24 ∧ 4 ≤ field x 20 18)
  -- R105: reserved 3RF operations
  ∨ (minor = 28 ∧ op4 ∈ [0, 7, 8, 15])

/-- The MSA words of instructions outside the block (00_scope R6): floating point (R86, R104, R105), loads and
stores (R86), control-register moves (R103). -/
def OutsideWord (x : Nat) : Prop :=
  field x 5 0 ∈ [26, 27] ∨ (32 ≤ field x 5 0 ∧ field x 5 0 < 40)
  ∨ (field x 5 0 = 25 ∧ field x 21 16 = 62 ∧ field x 25 22 < 2)
  ∨ (field x 5 0 = 30 ∧ field x 25 21 = 25)
  ∨ (field x 5 0 = 28 ∧ field x 25 22 ∈ [1, 2, 3, 9, 10, 11])

/-- A safe run: however many steps are taken, the block hands over no fault and no step ends in one. -/
def SafeRun (s : State) : Prop :=
  (∀ k f, core.run k s ≠ .fault f) ∧ ∀ k (t : State), core.run k s = .next t → t.faults = s.faults

/-- What the modify bitmap is for (10_state R39): while tracking is on, every register that no longer holds
what it held when the bitmap was last cleared (`base`) has its bit set. -/
def TrackedSince (base : Vector Vec 32) (s : State) : Prop :=
  s.params.trackEnable = true → ∀ r : Reg, s.rd r ≠ base.get r → s.modify.getLsbD r.val = true

/-- Both scalar ports carry GPRLEN-bit values (10_state R36, R37). -/
def PortsWithinGprLen (s : State) : Prop :=
  s.gprIn.toNat < 2 ^ s.params.gprLen.bits ∧ s.gprOut.value.toNat < 2 ^ s.params.gprLen.bits

end Sys2Proof
end

