-- ==== Sys2Proof/Certificates/Slice0/Obligations.lean ====
section
/-! DEFINITION. The statements for the provers. `S`, `T`, `D` stand for the registers `ws`, `wt`, `wd` as they were
before the operation. The words are written with the format functions of `Decode.lean` (30_encoding R88 to
R95, from general knowledge, D14) and the operation codes of each rule's Encoding line. Every row statement
rests on two choices beside its own rules: the word's layout (D14), and the modify bit that `commit` sets
whether or not the value changed (40 R141, D10, D26); log 20 names them as presumed. -/

open Sys2Proof Sys2Proof.Machine

/-! ## Encoding -/

/-- Words of the spec's programs P1 to P4 (95_test_vectors section 3) decode to the instructions written
beside them there. -/
def Obligations.SampleWordsDecode : Prop :=
  decode 0x7b032047#32 = .ok (.ldiB 1 100) ∧
  decode 0x790208d0#32 = .ok (.addsSB 3 1 2) ∧
  decode 0x7903218f#32 = .ok (.cltSB 6 4 3) ∧
  decode 0x781b11c2#32 = .ok (.shfB 7 2 0x1b) ∧
  decode 0x78730a19#32 = .ok (.splatiW 8 1 3) ∧
  decode 0x79032859#32 = .ok (.insertB 1 5 3) ∧
  decode 0x78060894#32 = .ok (.sldB 2 1 6) ∧
  decode 0x7b0d091e#32 = .ok (.nlzcH 4 1) ∧
  decode 0x790631dc#32 = .ok (.mulQH 7 6 6) ∧
  decode 0x79432a0a#32 = .ok (.srariW 8 5 3) ∧
  decode 0x7b1ff887#32 = .ok (.ldiB 2 (-1)) ∧
  decode 0x78420953#32 = .ok (.dotpSW 5 1 2)

/-- Every instruction a word can spell decodes from its own word, with every operand at every value the
encoding admits. -/
def Obligations.DecodeOfEncode : Prop :=
  ∀ i : Instr, i.encodable = true → decode (encode i) = .ok i

/-- Every word that decodes is the one word that spells its instruction: no bit of it is ignored, and its
immediates and lane index are in range (R91, R92). -/
def Obligations.EncodeOfDecode : Prop :=
  ∀ (w : Word32) (i : Instr), decode w = .ok i → encode i = w ∧ i.encodable = true

/-- A word that spells no instruction of the block is refused by name when the dispatcher issues it: one the
tables mark reserved (R106, D15), one of an MSA instruction outside the block (00_scope R6), and one whose
major opcode is not MSA's. That these words reach the block at all, and the names, are the model's choice
(log 11). -/
def Obligations.ReservedWordsRefused : Prop :=
  ∀ (s : State) (w : Word32) (g : Scalar) (rest : List Event), s.input = .word w g :: rest →
    (field w.toNat 31 26 ≠ 30 → step s = .refused (.reservedWord .notMsa)) ∧
    (field w.toNat 31 26 = 30 → OutsideWord w.toNat → step s = .refused (.reservedWord .outsideBlock)) ∧
    (field w.toNat 31 26 = 30 → ReservedWord w.toNat →
      step s = .refused (.reservedWord .reservedMinor) ∨ step s = .refused (.reservedWord .reservedOperation) ∨
      step s = .refused (.reservedWord .reservedFormat))

/-- Every MSA word that is neither reserved nor of an instruction outside the block spells an instruction. -/
def Obligations.InScopeWordsDecode : Prop :=
  ∀ w : Word32, field w.toNat 31 26 = 30 → ¬ ReservedWord w.toNat → ¬ OutsideWord w.toNat →
    ∃ i, decode w = .ok i

/-! ## The step -/

/-- When the dispatcher issues a word that decodes to `i`, or the descriptor `i`, the step is `exec i` at the
state with that event taken and its scalar on `gpr_in` (the input list is the model's own, log 1): the next
state is exec's, a refusal is exec's, and where exec faults the fault is handed over, which changes nothing
else, and the run goes on with what is issued after it (70_reset_and_hazards section 4; the list of faults is
the model's own, log 10). -/
def Obligations.StepRunsDecodedInstruction : Prop :=
  ∀ (s : State) (i : Instr) (w : Word32) (g : Scalar) (rest : List Event),
    ((s.input = .word w g :: rest ∧ decode w = .ok i) ∨ s.input = .descriptor i g :: rest) →
    let taken := driveGprIn { s with input := rest } g
    (∀ t, exec i taken = .next t → step s = .next t) ∧
    (∀ f, exec i taken = .fault f → step s = .next { taken with faults := s.faults ++ [f] }) ∧
    (∀ why, exec i taken = .refused why → step s = .refused why)

/-- What else a step does (the events are the model's own, logs 1, 17, 18): the collaborator clears bits of
`MODIFY`, another context ORs bits into it, each changing nothing else, and with no further event the run has
ended. -/
def Obligations.OutsideEventsAndEndOfRun : Prop :=
  ∀ (s : State) (m : BitVec 32) (rest : List Event),
    (s.input = .clearModify m :: rest →
      step s = .next { s with input := rest, modify := s.modify &&& ~~~m }) ∧
    (s.input = .contextOr m :: rest → step s = .next { s with input := rest, modify := s.modify ||| m }) ∧
    (s.input = [] → step s = .refused .noInput)

/-! ## Add, subtract, average (41) -/

/-- R171 to R174; the choice of reading does not change the stored lane. Presumed (log 20): the word's layout
(D14) and the modify bit set whether or not the value changes (40 R141, D10, D26). -/
def Obligations.ModularAddSub : Prop :=
  (∀ (df : Fmt) (a b : Lane df), trunc df (sext a + sext b) = trunc df (zext a + zext b)) ∧
  ∀ (s : State) (df : Fmt) (wd ws wt : Reg) (u5 : Nat),
    RowLanes (word3R 0b001110 0b000 df wd ws wt) (Instr.addv df wd ws wt) s wd df
      (fun k => loadS s ws df k + loadS s wt df k) ∧
    RowLanes (word3R 0b001110 0b001 df wd ws wt) (Instr.subv df wd ws wt) s wd df
      (fun k => loadS s ws df k - loadS s wt df k) ∧
    (u5 ≤ 31 →
      RowLanes (wordI5 0b000110 0b000 df wd ws u5) (Instr.addvi df wd ws u5) s wd df
        (fun k => loadS s ws df k + u5) ∧
      RowLanes (wordI5 0b000110 0b001 df wd ws u5) (Instr.subvi df wd ws u5) s wd df
        (fun k => loadS s ws df k - u5))

/-- R175 to R178, with the form of the signed sum that R175 says also gives the clamp, computed without a wide
intermediate. Presumed (log 20): the word's layout (D14) and the modify bit set whether or not the value changes
(40 R141, D10, D26). -/
def Obligations.SaturatingAddSub : Prop :=
  (∀ (df : Fmt) (x y : Lane df),
    let a := sext x
    let b := sext y
    let lo := minInt (laneBits df)
    let hi := maxInt (laneBits df)
    clamp (a + b) lo hi =
      if a < 0 then (if lo - a < b then a + b else lo) else (if b < hi - a then a + b else hi)) ∧
  ∀ (s : State) (df : Fmt) (wd ws wt : Reg),
    RowLanes (word3R 0b010000 0b010 df wd ws wt) (Instr.addsS df wd ws wt) s wd df
      (fun k => clamp (loadS s ws df k + loadS s wt df k) (minInt (laneBits df)) (maxInt (laneBits df))) ∧
    RowLanes (word3R 0b010000 0b011 df wd ws wt) (Instr.addsU df wd ws wt) s wd df
      (fun k => min (loadU s ws df k + loadU s wt df k) (maxUint (laneBits df))) ∧
    RowLanes (word3R 0b010001 0b000 df wd ws wt) (Instr.subsS df wd ws wt) s wd df
      (fun k => clamp (loadS s ws df k - loadS s wt df k) (minInt (laneBits df)) (maxInt (laneBits df))) ∧
    RowLanes (word3R 0b010001 0b001 df wd ws wt) (Instr.subsU df wd ws wt) s wd df
      (fun k => max (loadU s ws df k - loadU s wt df k) 0)

/-- R181, R182, R186, R188, with the floor forms of the two averages and the fact that an absolute difference is
stored without loss and is the larger operand less the smaller. Presumed (log 20): the word's layout (D14) and
the modify bit set whether or not the value changes (40 R141, D10, D26). -/
def Obligations.AbsoluteDifferenceAndUnsignedAverage : Prop :=
  (∀ (s : State) (df : Fmt) (wd ws wt : Reg),
    RowLanes (word3R 0b010001 0b100 df wd ws wt) (Instr.asubS df wd ws wt) s wd df
      (fun k => mag (loadS s ws df k - loadS s wt df k)) ∧
    RowLanes (word3R 0b010001 0b101 df wd ws wt) (Instr.asubU df wd ws wt) s wd df
      (fun k => mag (loadU s ws df k - loadU s wt df k)) ∧
    RowLanes (word3R 0b010000 0b101 df wd ws wt) (Instr.aveU df wd ws wt) s wd df
      (fun k => (loadU s ws df k + loadU s wt df k) / 2) ∧
    RowLanes (word3R 0b010000 0b111 df wd ws wt) (Instr.averU df wd ws wt) s wd df
      (fun k => (loadU s ws df k + loadU s wt df k + 1) / 2)) ∧
  (∀ (df : Fmt) (a b : Lane df),
    mag (sext a - sext b) = (if sext a < sext b then sext b - sext a else sext a - sext b) ∧
    zext (trunc df (mag (sext a - sext b))) = mag (sext a - sext b) ∧
    zext (trunc df (mag (zext a - zext b))) = mag (zext a - zext b) ∧
    shr (zext a) 1 + shr (zext b) 1 + bitAt (a &&& b) 0 = (zext a + zext b) / 2 ∧
    shr (zext a) 1 + shr (zext b) 1 + bitAt (a ||| b) 0 = (zext a + zext b + 1) / 2)

/-- `subsus_u` and `subsuu_s` as 41_add_sub_avg section 2 gives them: which source is read unsigned is from
general knowledge, the bounds are decision D19. -/
def Obligations.CrossSaturatingSubtract : Prop :=
  ∀ (s : State) (df : Fmt) (wd ws wt : Reg),
    RowLanes (word3R 0b010001 0b010 df wd ws wt) (Instr.subsusU df wd ws wt) s wd df
      (fun k => clamp (loadU s ws df k - loadS s wt df k) 0 (maxUint (laneBits df))) ∧
    RowLanes (word3R 0b010001 0b011 df wd ws wt) (Instr.subsuuS df wd ws wt) s wd df
      (fun k => clamp (loadU s ws df k - loadU s wt df k) (minInt (laneBits df)) (maxInt (laneBits df)))

/-- `add_a`, `adds_a` (exact magnitudes, decision D35) and the floor forms of `ave_s`, `aver_s` (decision D18),
41_add_sub_avg sections 4 and 5. -/
def Obligations.MagnitudeAddAndSignedAverage : Prop :=
  ∀ (s : State) (df : Fmt) (wd ws wt : Reg),
    RowLanes (word3R 0b010000 0b000 df wd ws wt) (Instr.addA df wd ws wt) s wd df
      (fun k => mag (loadS s ws df k) + mag (loadS s wt df k)) ∧
    RowLanes (word3R 0b010000 0b001 df wd ws wt) (Instr.addsA df wd ws wt) s wd df
      (fun k => min (mag (loadS s ws df k) + mag (loadS s wt df k)) (maxInt (laneBits df))) ∧
    RowLanes (word3R 0b010000 0b100 df wd ws wt) (Instr.aveS df wd ws wt) s wd df
      (fun k => (loadS s ws df k + loadS s wt df k) / 2) ∧
    RowLanes (word3R 0b010000 0b110 df wd ws wt) (Instr.averS df wd ws wt) s wd df
      (fun k => (loadS s ws df k + loadS s wt df k + 1) / 2)

/-- R189: the lane a modular operation leaves, read unsigned, is the exact result modulo `2^width`, whichever
way the operands are read (`add_a` takes magnitudes, so its operands are read signed). -/
def Obligations.ModularLanesAreResidues : Prop :=
  ∀ (s : State) (df : Fmt) (wd ws wt : Reg) (u5 : Nat),
    let residue (i : Instr) (v : Nat → Int) : Prop :=
      ∃ t, exec i s = .next t ∧ ∀ k, k < laneCount df → loadU t wd df k = v k % 2 ^ laneBits df
    residue (Instr.addv df wd ws wt) (fun k => loadS s ws df k + loadS s wt df k) ∧
    residue (Instr.addv df wd ws wt) (fun k => loadU s ws df k + loadU s wt df k) ∧
    residue (Instr.subv df wd ws wt) (fun k => loadS s ws df k - loadS s wt df k) ∧
    residue (Instr.subv df wd ws wt) (fun k => loadU s ws df k - loadU s wt df k) ∧
    residue (Instr.addA df wd ws wt) (fun k => mag (loadS s ws df k) + mag (loadS s wt df k)) ∧
    (u5 ≤ 31 →
      residue (Instr.addvi df wd ws u5) (fun k => loadS s ws df k + u5) ∧
      residue (Instr.addvi df wd ws u5) (fun k => loadU s ws df k + u5) ∧
      residue (Instr.subvi df wd ws u5) (fun k => loadS s ws df k - u5) ∧
      residue (Instr.subvi df wd ws u5) (fun k => loadU s ws df k - u5))

/-! ## Minimum, maximum, compare (42) -/

/-- `max_a` and `min_a`: the operand of greater or smaller magnitude, a tie going by the parameter `MAG_TIE`
(42_minmax_compare section 1, decision D12). -/
def Obligations.MagnitudeMaxMin : Prop :=
  ∀ (s : State) (df : Fmt) (wd ws wt : Reg),
    RowLanes (word3R 0b001110 0b110 df wd ws wt) (Instr.maxA df wd ws wt) s wd df
      (fun k => if mag (loadS s wt df k) < mag (loadS s ws df k) then loadS s ws df k
        else if mag (loadS s ws df k) < mag (loadS s wt df k) then loadS s wt df k
        else if s.params.magTie = .first then loadS s ws df k else loadS s wt df k) ∧
    RowLanes (word3R 0b001110 0b111 df wd ws wt) (Instr.minA df wd ws wt) s wd df
      (fun k => if mag (loadS s ws df k) < mag (loadS s wt df k) then loadS s ws df k
        else if mag (loadS s wt df k) < mag (loadS s ws df k) then loadS s wt df k
        else if s.params.magTie = .first then loadS s ws df k else loadS s wt df k)

/-- R203 to R206. Presumed (log 20): the word's layout (D14) and the modify bit set whether or not the value
changes (40 R141, D10, D26). -/
def Obligations.MaxMinRegisterForms : Prop :=
  ∀ (s : State) (df : Fmt) (wd ws wt : Reg),
    RowLanes (word3R 0b001110 0b010 df wd ws wt) (Instr.maxS df wd ws wt) s wd df
      (fun k => max (loadS s ws df k) (loadS s wt df k)) ∧
    RowLanes (word3R 0b001110 0b011 df wd ws wt) (Instr.maxU df wd ws wt) s wd df
      (fun k => max (loadU s ws df k) (loadU s wt df k)) ∧
    RowLanes (word3R 0b001110 0b100 df wd ws wt) (Instr.minS df wd ws wt) s wd df
      (fun k => min (loadS s ws df k) (loadS s wt df k)) ∧
    RowLanes (word3R 0b001110 0b101 df wd ws wt) (Instr.minU df wd ws wt) s wd df
      (fun k => min (loadU s ws df k) (loadU s wt df k))

/-- R212, R214, R215, R218, R219, with the mask of R211: each result lane is all ones where the predicate holds
and all zeros where it does not; equality is the same in either reading. Presumed (log 20): the word's layout
(D14) and the modify bit set whether or not the value changes (40 R141, D10, D26). -/
def Obligations.CompareRegisterForms : Prop :=
  (∀ (df : Fmt) (a b : Lane df), (sext a = sext b ↔ a = b) ∧ (zext a = zext b ↔ a = b)) ∧
  ∀ (s : State) (df : Fmt) (wd ws wt : Reg),
    RowBits (word3R 0b001111 0b000 df wd ws wt) (Instr.ceq df wd ws wt) s wd df
      (fun k _ => decide (loadLane s ws df k = loadLane s wt df k)) ∧
    RowBits (word3R 0b001111 0b010 df wd ws wt) (Instr.cltS df wd ws wt) s wd df
      (fun k _ => decide (loadS s ws df k < loadS s wt df k)) ∧
    RowBits (word3R 0b001111 0b011 df wd ws wt) (Instr.cltU df wd ws wt) s wd df
      (fun k _ => decide (loadU s ws df k < loadU s wt df k)) ∧
    RowBits (word3R 0b001111 0b100 df wd ws wt) (Instr.cleS df wd ws wt) s wd df
      (fun k _ => decide (loadS s ws df k ≤ loadS s wt df k)) ∧
    RowBits (word3R 0b001111 0b101 df wd ws wt) (Instr.cleU df wd ws wt) s wd df
      (fun k _ => decide (loadU s ws df k ≤ loadU s wt df k))

/-- The immediate forms of 42_minmax_compare sections 2 and 3: `s5` signed for the signed forms, `u5` unsigned
for the others, taken as an integer (decision D24). -/
def Obligations.ImmediateMaxMinCompare : Prop :=
  ∀ (s : State) (df : Fmt) (wd ws : Reg) (s5 : Int) (u5 : Nat), -16 ≤ s5 → s5 ≤ 15 → u5 ≤ 31 →
    RowLanes (wordI5 0b000110 0b010 df wd ws (unsigned 5 s5)) (Instr.maxiS df wd ws s5) s wd df
      (fun k => max (loadS s ws df k) s5) ∧
    RowLanes (wordI5 0b000110 0b011 df wd ws u5) (Instr.maxiU df wd ws u5) s wd df
      (fun k => max (loadU s ws df k) u5) ∧
    RowLanes (wordI5 0b000110 0b100 df wd ws (unsigned 5 s5)) (Instr.miniS df wd ws s5) s wd df
      (fun k => min (loadS s ws df k) s5) ∧
    RowLanes (wordI5 0b000110 0b101 df wd ws u5) (Instr.miniU df wd ws u5) s wd df
      (fun k => min (loadU s ws df k) u5) ∧
    RowBits (wordI5 0b000111 0b000 df wd ws (unsigned 5 s5)) (Instr.ceqi df wd ws s5) s wd df
      (fun k _ => decide (loadS s ws df k = s5)) ∧
    RowBits (wordI5 0b000111 0b010 df wd ws (unsigned 5 s5)) (Instr.cltiS df wd ws s5) s wd df
      (fun k _ => decide (loadS s ws df k < s5)) ∧
    RowBits (wordI5 0b000111 0b011 df wd ws u5) (Instr.cltiU df wd ws u5) s wd df
      (fun k _ => decide (loadU s ws df k < u5)) ∧
    RowBits (wordI5 0b000111 0b100 df wd ws (unsigned 5 s5)) (Instr.cleiS df wd ws s5) s wd df
      (fun k _ => decide (loadS s ws df k ≤ s5)) ∧
    RowBits (wordI5 0b000111 0b101 df wd ws u5) (Instr.cleiU df wd ws u5) s wd df
      (fun k _ => decide (loadU s ws df k ≤ u5))

/-! ## Multiply, divide, dot product (43) -/

/-- R232 to R236: `ws` supplies the odd sub-lane and `wt` the even one, of a lane of N bits split at `N/2`.
Presumed (log 20): the word's layout (D14) and the modify bit set whether or not the value changes (40 R141,
D10, D26). -/
def Obligations.HorizontalAddSub : Prop :=
  ∀ (s : State) (f : FmtHwd) (wd ws wt : Reg),
    let odd (r : Reg) (k : Nat) := (loadLane s r f.fmt k).extractLsb' (laneBits f.fmt / 2) (laneBits f.fmt / 2)
    let even (r : Reg) (k : Nat) := (loadLane s r f.fmt k).extractLsb' 0 (laneBits f.fmt / 2)
    RowLanes (word3R 0b010101 0b100 f.fmt wd ws wt) (Instr.haddS f wd ws wt) s wd f.fmt
      (fun k => (odd ws k).toInt + (even wt k).toInt) ∧
    RowLanes (word3R 0b010101 0b101 f.fmt wd ws wt) (Instr.haddU f wd ws wt) s wd f.fmt
      (fun k => (odd ws k).toNat + (even wt k).toNat) ∧
    RowLanes (word3R 0b010101 0b110 f.fmt wd ws wt) (Instr.hsubS f wd ws wt) s wd f.fmt
      (fun k => (odd ws k).toInt - (even wt k).toInt) ∧
    RowLanes (word3R 0b010101 0b111 f.fmt wd ws wt) (Instr.hsubU f wd ws wt) s wd f.fmt
      (fun k => (odd ws k).toNat - (even wt k).toNat)

/-- R237 to R242: the sum of the products of the even and of the odd sub-lanes, alone, or added to or subtracted
from the destination lane as it was; the reading of that lane does not change the result. Presumed (log 20): the
word's layout (D14) and the modify bit set whether or not the value changes (40 R141, D10, D26). -/
def Obligations.DotProducts : Prop :=
  (∀ (df : Fmt) (d : Lane df) (v : Int), trunc df (sext d + v) = trunc df (zext d + v)) ∧
  ∀ (s : State) (f : FmtHwd) (wd ws wt : Reg),
    let odd (r : Reg) (k : Nat) := (loadLane s r f.fmt k).extractLsb' (laneBits f.fmt / 2) (laneBits f.fmt / 2)
    let even (r : Reg) (k : Nat) := (loadLane s r f.fmt k).extractLsb' 0 (laneBits f.fmt / 2)
    let signedDot (k : Nat) : Int :=
      (even ws k).toInt * (even wt k).toInt + (odd ws k).toInt * (odd wt k).toInt
    let unsignedDot (k : Nat) : Int := (even ws k).toNat * (even wt k).toNat + (odd ws k).toNat * (odd wt k).toNat
    RowLanes (word3R 0b010011 0b000 f.fmt wd ws wt) (Instr.dotpS f wd ws wt) s wd f.fmt signedDot ∧
    RowLanes (word3R 0b010011 0b001 f.fmt wd ws wt) (Instr.dotpU f wd ws wt) s wd f.fmt unsignedDot ∧
    RowLanes (word3R 0b010011 0b010 f.fmt wd ws wt) (Instr.dpaddS f wd ws wt) s wd f.fmt
      (fun k => loadS s wd f.fmt k + signedDot k) ∧
    RowLanes (word3R 0b010011 0b011 f.fmt wd ws wt) (Instr.dpaddU f wd ws wt) s wd f.fmt
      (fun k => loadU s wd f.fmt k + unsignedDot k) ∧
    RowLanes (word3R 0b010011 0b100 f.fmt wd ws wt) (Instr.dpsubS f wd ws wt) s wd f.fmt
      (fun k => loadS s wd f.fmt k - signedDot k) ∧
    RowLanes (word3R 0b010011 0b101 f.fmt wd ws wt) (Instr.dpsubU f wd ws wt) s wd f.fmt
      (fun k => loadU s wd f.fmt k - unsignedDot k)

/-- R243 to R245; the low bits of a product are the same in either reading. Presumed (log 20): the word's layout
(D14) and the modify bit set whether or not the value changes (40 R141, D10, D26). -/
def Obligations.MultiplyAccumulate : Prop :=
  (∀ (df : Fmt) (a b : Lane df), trunc df (sext a * sext b) = trunc df (zext a * zext b)) ∧
  ∀ (s : State) (df : Fmt) (wd ws wt : Reg),
    RowLanes (word3R 0b010010 0b000 df wd ws wt) (Instr.mulv df wd ws wt) s wd df
      (fun k => loadS s ws df k * loadS s wt df k) ∧
    RowLanes (word3R 0b010010 0b001 df wd ws wt) (Instr.maddv df wd ws wt) s wd df
      (fun k => loadS s wd df k + loadS s ws df k * loadS s wt df k) ∧
    RowLanes (word3R 0b010010 0b010 df wd ws wt) (Instr.msubv df wd ws wt) s wd df
      (fun k => loadS s wd df k - loadS s ws df k * loadS s wt df k)

/-- R247, R249: division and remainder by zero give 0. Presumed (log 20): the word's layout (D14) and the modify
bit set whether or not the value changes (40 R141, D10, D26). -/
def Obligations.UnsignedDivideModulo : Prop :=
  ∀ (s : State) (df : Fmt) (wd ws wt : Reg),
    RowLanes (word3R 0b010010 0b101 df wd ws wt) (Instr.divU df wd ws wt) s wd df
      (fun k => if loadU s wt df k = 0 then 0 else loadU s ws df k / loadU s wt df k) ∧
    RowLanes (word3R 0b010010 0b111 df wd ws wt) (Instr.modU df wd ws wt) s wd df
      (fun k => if loadU s wt df k = 0 then 0 else loadU s ws df k % loadU s wt df k)

/-- `div_s` and `mod_s` as 43_mul_div_dot section 5 gives them: the quotient truncates toward zero and the
remainder takes the sign of the dividend (general knowledge, decision D20). -/
def Obligations.SignedDivideModulo : Prop :=
  ∀ (s : State) (df : Fmt) (wd ws wt : Reg),
    RowLanes (word3R 0b010010 0b100 df wd ws wt) (Instr.divS df wd ws wt) s wd df
      (fun k => if loadS s ws df k = minInt (laneBits df) ∧ loadS s wt df k = -1 then minInt (laneBits df)
        else if loadS s wt df k = 0 then 0 else (loadS s ws df k).tdiv (loadS s wt df k)) ∧
    RowLanes (word3R 0b010010 0b110 df wd ws wt) (Instr.modS df wd ws wt) s wd df
      (fun k => if loadS s ws df k = minInt (laneBits df) ∧ loadS s wt df k = -1 then 0
        else if loadS s wt df k = 0 then 0 else (loadS s ws df k).tmod (loadS s wt df k))

/-- The division identity of 43_mul_div_dot section 6, on the lanes two instructions leave: `div_s` into one
register and `mod_s` into another, from the same state. -/
def Obligations.DivisionIdentity : Prop :=
  ∀ (s t u : State) (df : Fmt) (q r ws wt : Reg) (k : Nat), k < laneCount df →
    exec (Instr.divS df q ws wt) s = .next t → exec (Instr.modS df r ws wt) s = .next u →
    loadS s wt df k ≠ 0 → ¬ (loadS s ws df k = minInt (laneBits df) ∧ loadS s wt df k = -1) →
    loadS s ws df k = loadS s wt df k * loadS t q df k + loadS u r df k ∧
    mag (loadS u r df k) < mag (loadS s wt df k) ∧
    (loadS u r df k = 0 ∨ (0 < loadS u r df k ∧ 0 < loadS s ws df k) ∨
      (loadS u r df k < 0 ∧ loadS s ws df k < 0))

/-! ## Fixed point (44) -/

/-- The six Q-format operations of 44_fixed_point, all from general knowledge (decision D31). -/
def Obligations.FixedPointMultiply : Prop :=
  ∀ (s : State) (f : FmtHw) (wd ws wt : Reg),
    let n := laneBits f.fmt
    let product (k : Nat) := loadS s ws f.fmt k * loadS s wt f.fmt k
    let bothMin (k : Nat) := loadS s ws f.fmt k = minInt n ∧ loadS s wt f.fmt k = minInt n
    let sat (v : Int) := clamp v (minInt n) (maxInt n)
    RowLanes (word3RF 0b0100 f wd ws wt) (Instr.mulQ f wd ws wt) s wd f.fmt
      (fun k => if bothMin k then maxInt n else product k / 2 ^ (n - 1)) ∧
    RowLanes (word3RF 0b1100 f wd ws wt) (Instr.mulrQ f wd ws wt) s wd f.fmt
      (fun k => if bothMin k then maxInt n else (product k + 2 ^ (n - 2)) / 2 ^ (n - 1)) ∧
    RowLanes (word3RF 0b0101 f wd ws wt) (Instr.maddQ f wd ws wt) s wd f.fmt
      (fun k => sat ((loadS s wd f.fmt k * 2 ^ (n - 1) + product k) / 2 ^ (n - 1))) ∧
    RowLanes (word3RF 0b1101 f wd ws wt) (Instr.maddrQ f wd ws wt) s wd f.fmt
      (fun k => sat ((loadS s wd f.fmt k * 2 ^ (n - 1) + product k + 2 ^ (n - 2)) / 2 ^ (n - 1))) ∧
    RowLanes (word3RF 0b0110 f wd ws wt) (Instr.msubQ f wd ws wt) s wd f.fmt
      (fun k => sat ((loadS s wd f.fmt k * 2 ^ (n - 1) - product k) / 2 ^ (n - 1))) ∧
    RowLanes (word3RF 0b1110 f wd ws wt) (Instr.msubrQ f wd ws wt) s wd f.fmt
      (fun k => sat ((loadS s wd f.fmt k * 2 ^ (n - 1) - product k + 2 ^ (n - 2)) / 2 ^ (n - 1)))

/-! ## Bit operations (45) -/

/-- R282, R284, R286, with the position of R281: bit `b mod N` of the lane is cleared, set or inverted, and
every other bit is that of `ws`. Presumed (log 20): the word's layout (D14) and the modify bit set whether or
not the value changes (40 R141, D10, D26). -/
def Obligations.BitRegisterForms : Prop :=
  ∀ (s : State) (df : Fmt) (wd ws wt : Reg),
    let p (k : Nat) := (loadLane s wt df k).toNat % laneBits df
    RowBits (word3R 0b001101 0b011 df wd ws wt) (Instr.bclr df wd ws wt) s wd df
      (fun k j => if j = p k then false else (loadLane s ws df k).getLsbD j) ∧
    RowBits (word3R 0b001101 0b100 df wd ws wt) (Instr.bset df wd ws wt) s wd df
      (fun k j => if j = p k then true else (loadLane s ws df k).getLsbD j) ∧
    RowBits (word3R 0b001101 0b101 df wd ws wt) (Instr.bneg df wd ws wt) s wd df
      (fun k j => if j = p k then !(loadLane s ws df k).getLsbD j else (loadLane s ws df k).getLsbD j)

/-- The immediate forms of 45_bit_ops section 1 (from general knowledge): bit `m` of every lane. -/
def Obligations.BitImmediateForms : Prop :=
  ∀ (s : State) (df : Fmt) (wd ws : Reg) (m : Nat), m < laneBits df →
    RowBits (wordBit 0b001001 0b011 df wd ws m) (Instr.bclri df wd ws m) s wd df
      (fun k j => if j = m then false else (loadLane s ws df k).getLsbD j) ∧
    RowBits (wordBit 0b001001 0b100 df wd ws m) (Instr.bseti df wd ws m) s wd df
      (fun k j => if j = m then true else (loadLane s ws df k).getLsbD j) ∧
    RowBits (wordBit 0b001001 0b101 df wd ws m) (Instr.bnegi df wd ws m) s wd df
      (fun k j => if j = m then !(loadLane s ws df k).getLsbD j else (loadLane s ws df k).getLsbD j)

/-- The bit inserts of 45_bit_ops section 2 with the orientation of decision D17: `binsl` takes the top
`p + 1` bits from `ws`, `binsr` the low `p + 1` bits, and the other bits stay those of `wd`. -/
def Obligations.BitInsert : Prop :=
  ∀ (s : State) (df : Fmt) (wd ws wt : Reg) (m : Nat),
    let p (k : Nat) := (loadLane s wt df k).toNat % laneBits df
    let top (q k j : Nat) :=
      if laneBits df - (q + 1) ≤ j then (loadLane s ws df k).getLsbD j else (loadLane s wd df k).getLsbD j
    let low (q k j : Nat) :=
      if j < q + 1 then (loadLane s ws df k).getLsbD j else (loadLane s wd df k).getLsbD j
    RowBits (word3R 0b001101 0b110 df wd ws wt) (Instr.binsl df wd ws wt) s wd df (fun k j => top (p k) k j) ∧
    RowBits (word3R 0b001101 0b111 df wd ws wt) (Instr.binsr df wd ws wt) s wd df (fun k j => low (p k) k j) ∧
    (m < laneBits df →
      RowBits (wordBit 0b001001 0b110 df wd ws m) (Instr.binsli df wd ws m) s wd df (fun k j => top m k j) ∧
      RowBits (wordBit 0b001001 0b111 df wd ws m) (Instr.binsri df wd ws m) s wd df (fun k j => low m k j))

/-- R293, with its corner case: `m = N - 1` leaves every lane unchanged. Presumed (log 20): the word's layout
(D14) and the modify bit set whether or not the value changes (40 R141, D10, D26). -/
def Obligations.SignedSaturate : Prop :=
  ∀ (s : State) (df : Fmt) (wd ws : Reg) (m : Nat), m < laneBits df →
    RowLanes (wordBit 0b001010 0b000 df wd ws m) (Instr.satS df wd ws m) s wd df
      (fun k => clamp (loadS s ws df k) (-2 ^ m) (2 ^ m - 1)) ∧
    (m = laneBits df - 1 → exec (Instr.satS df wd ws m) s = .next (commit s wd (s.rd ws)))

/-- `sat_u` with the bound of decision D25 (45_bit_ops section 3), and the counts of section 4 (general
knowledge, decision D32): the number of 1 bits; the number of leading 1 or 0 bits, which is the largest `z`
such that the top `z` bits are all 1 or all 0. -/
def Obligations.UnsignedSaturateAndCounts : Prop :=
  ∀ (s : State) (df : Fmt) (wd ws : Reg) (m : Nat),
    let a (k : Nat) := loadLane s ws df k
    let leading (v : Bool) (V : Vec) := ∀ k, k < laneCount df →
      ∃ z, z ≤ laneBits df ∧ lane V df k = BitVec.ofNat (laneBits df) z ∧
        (∀ j, laneBits df - z ≤ j → j < laneBits df → (a k).getLsbD j = v) ∧
        (z < laneBits df → (a k).getLsbD (laneBits df - 1 - z) = !v)
    (m < laneBits df →
      RowLanes (wordBit 0b001010 0b001 df wd ws m) (Instr.satU df wd ws m) s wd df
        (fun k => min (loadU s ws df k) (2 ^ (m + 1) - 1))) ∧
    RowLanes (word2R 0b001 df wd ws) (Instr.pcnt df wd ws) s wd df
      (fun k => ((List.range (laneBits df)).filter fun j => (a k).getLsbD j).length) ∧
    RowCommits (word2R 0b010 df wd ws) (Instr.nloc df wd ws) s wd (leading true) ∧
    RowCommits (word2R 0b011 df wd ws) (Instr.nlzc df wd ws) s wd (leading false)

/-- The whole-register operations of 45_bit_ops sections 5 and 6 (general knowledge, decision D2), bit by bit;
`s`, `t`, `d` are the bits of `ws`, `wt` and the old `wd`. -/
def Obligations.WholeRegisterLogic : Prop :=
  ∀ (σ : State) (wd ws wt : Reg),
    let row (op : Nat) (i : Instr) (g : Bool → Bool → Bool → Bool) : Prop :=
      RowCommits (wordVec op wd ws wt) i σ wd fun V => ∀ j, j < 128 →
        V.getLsbD j = g ((σ.rd ws).getLsbD j) ((σ.rd wt).getLsbD j) ((σ.rd wd).getLsbD j)
    row 0b00000 (.andV wd ws wt) (fun s t _ => s && t) ∧
    row 0b00001 (.orV wd ws wt) (fun s t _ => s || t) ∧
    row 0b00010 (.norV wd ws wt) (fun s t _ => !(s || t)) ∧
    row 0b00011 (.xorV wd ws wt) (fun s t _ => s != t) ∧
    row 0b00100 (.bmnzV wd ws wt) (fun s t d => if t then s else d) ∧
    row 0b00101 (.bmzV wd ws wt) (fun s t d => if t then d else s) ∧
    row 0b00110 (.bselV wd ws wt) (fun s t d => if d then t else s)

/-- The `i8` forms of 45_bit_ops sections 5 and 6 (general knowledge, decision D2), bit by bit of the 16 byte
lanes; `i` is the bit of the immediate. -/
def Obligations.ByteImmediateLogic : Prop :=
  ∀ (σ : State) (wd ws : Reg) (i8 : Nat), i8 ≤ 255 →
    let row (minor op : Nat) (i : Instr) (g : Bool → Bool → Bool → Bool) : Prop :=
      RowBits (wordI8 minor op wd ws i8) i σ wd .b fun k j =>
        g ((loadLane σ ws .b k).getLsbD j) (i8.testBit j) ((loadLane σ wd .b k).getLsbD j)
    row 0b000000 0b00 (.andiB wd ws i8) (fun s i _ => s && i) ∧
    row 0b000000 0b01 (.oriB wd ws i8) (fun s i _ => s || i) ∧
    row 0b000000 0b10 (.noriB wd ws i8) (fun s i _ => !(s || i)) ∧
    row 0b000000 0b11 (.xoriB wd ws i8) (fun s i _ => s != i) ∧
    row 0b000001 0b00 (.bmnziB wd ws i8) (fun s i d => if i then s else d) ∧
    row 0b000001 0b01 (.bmziB wd ws i8) (fun s i d => if i then d else s) ∧
    row 0b000001 0b10 (.bseliB wd ws i8) (fun s i d => if d then i else s)

/-! ## Shifts (46) -/

/-- R322 to R327, with the amount of R320: a register form shifts by `b mod N`. Presumed (log 20): the word's
layout (D14) and the modify bit set whether or not the value changes (40 R141, D10, D26). -/
def Obligations.Shifts : Prop :=
  ∀ (s : State) (df : Fmt) (wd ws wt : Reg) (m : Nat),
    let p (k : Nat) := (loadLane s wt df k).toNat % laneBits df
    RowLanes (word3R 0b001101 0b000 df wd ws wt) (Instr.sll df wd ws wt) s wd df
      (fun k => loadU s ws df k * 2 ^ p k) ∧
    RowLanes (word3R 0b001101 0b001 df wd ws wt) (Instr.sra df wd ws wt) s wd df
      (fun k => loadS s ws df k / 2 ^ p k) ∧
    RowLanes (word3R 0b001101 0b010 df wd ws wt) (Instr.srl df wd ws wt) s wd df
      (fun k => loadU s ws df k / 2 ^ p k) ∧
    (m < laneBits df →
      RowLanes (wordBit 0b001001 0b000 df wd ws m) (Instr.slli df wd ws m) s wd df
        (fun k => loadU s ws df k * 2 ^ m) ∧
      RowLanes (wordBit 0b001001 0b001 df wd ws m) (Instr.srai df wd ws m) s wd df
        (fun k => loadS s ws df k / 2 ^ m) ∧
      RowLanes (wordBit 0b001001 0b010 df wd ws m) (Instr.srli df wd ws m) s wd df
        (fun k => loadU s ws df k / 2 ^ m))

/-- R328 to R331, with the rounding of R321: a shift by zero returns the operand, any other adds bit `p - 1` of
the operand. Presumed (log 20): the word's layout (D14) and the modify bit set whether or not the value changes
(40 R141, D10, D26). -/
def Obligations.RoundedShifts : Prop :=
  ∀ (s : State) (df : Fmt) (wd ws wt : Reg) (m : Nat),
    let p (k : Nat) := (loadLane s wt df k).toNat % laneBits df
    let rnd (v : Int) (q k : Nat) : Int :=
      if q = 0 then v else v / 2 ^ q + if (loadLane s ws df k).getLsbD (q - 1) then 1 else 0
    RowLanes (word3R 0b010101 0b001 df wd ws wt) (Instr.srar df wd ws wt) s wd df
      (fun k => rnd (loadS s ws df k) (p k) k) ∧
    RowLanes (word3R 0b010101 0b010 df wd ws wt) (Instr.srlr df wd ws wt) s wd df
      (fun k => rnd (loadU s ws df k) (p k) k) ∧
    (m < laneBits df →
      RowLanes (wordBit 0b001010 0b010 df wd ws m) (Instr.srari df wd ws m) s wd df
        (fun k => rnd (loadS s ws df k) m k) ∧
      RowLanes (wordBit 0b001010 0b011 df wd ws m) (Instr.srlri df wd ws m) s wd df
        (fun k => rnd (loadU s ws df k) m k))

/-! ## Permutation (47) -/

/-- The interleaves of 47_permute section 1 (operand roles: decision D36). -/
def Obligations.Interleave : Prop :=
  ∀ (s : State) (df : Fmt) (wd ws wt : Reg),
    let row (op : Nat) (i : Instr) (src : Nat → Nat) : Prop :=
      RowCommits (word3R 0b010100 op df wd ws wt) i s wd fun V => ∀ k, k < laneCount df / 2 →
        lane V df (2 * k) = lane (s.rd wt) df (src k) ∧ lane V df (2 * k + 1) = lane (s.rd ws) df (src k)
    row 0b110 (Instr.ilvev df wd ws wt) (fun k => 2 * k) ∧
    row 0b111 (Instr.ilvod df wd ws wt) (fun k => 2 * k + 1) ∧
    row 0b100 (Instr.ilvl df wd ws wt) (fun k => laneCount df / 2 + k) ∧
    row 0b101 (Instr.ilvr df wd ws wt) (fun k => k)

/-- The packs of 47_permute section 2 (operand roles: decision D36). -/
def Obligations.Pack : Prop :=
  ∀ (s : State) (df : Fmt) (wd ws wt : Reg),
    let row (op : Nat) (i : Instr) (src : Nat → Nat) : Prop :=
      RowCommits (word3R 0b010100 op df wd ws wt) i s wd fun V => ∀ k, k < laneCount df / 2 →
        lane V df k = lane (s.rd wt) df (src k) ∧
        lane V df (laneCount df / 2 + k) = lane (s.rd ws) df (src k)
    row 0b010 (Instr.pckev df wd ws wt) (fun k => 2 * k) ∧
    row 0b011 (Instr.pckod df wd ws wt) (fun k => 2 * k + 1)

/-- The corrected round trip of 47_permute section 6 (90_conflicts C6): packing the even lanes of `ilvl(A, B)`
and `ilvr(A, B)` gives `B` back, packing the odd lanes gives `A`. -/
def Obligations.PackInvertsInterleave : Prop :=
  ∀ (s t u v x : State) (df : Fmt) (a b l r e o : Reg), l ≠ a → l ≠ b → r ≠ l →
    exec (Instr.ilvl df l a b) s = .next t → exec (Instr.ilvr df r a b) t = .next u →
    exec (Instr.pckev df e l r) u = .next v → exec (Instr.pckod df o l r) u = .next x →
    v.rd e = s.rd b ∧ x.rd o = s.rd a

/-- `vshf` (control bits and source order: decision D21) and `shf` (index formula: decision D37), 47_permute
section 3. -/
def Obligations.Shuffles : Prop :=
  ∀ (s : State) (df : Fmt) (f : FmtBhw) (wd ws wt : Reg) (i8 : Nat),
    (RowCommits (word3R 0b010101 0b000 df wd ws wt) (Instr.vshf df wd ws wt) s wd fun V =>
      ∀ k, k < laneCount df →
        let c := lane (s.rd wd) df k
        let q := (c.extractLsb' 0 6).toNat % (2 * laneCount df)
        lane V df k =
          if c.extractLsb' 6 2 ≠ 0 then 0
          else if q < laneCount df then lane (s.rd wt) df q else lane (s.rd ws) df (q - laneCount df)) ∧
    (i8 ≤ 255 →
      RowCommits (wordI8 0b000010 (match f with | .b => 0b00 | .h => 0b01 | .w => 0b10) wd ws i8)
        (Instr.shf f wd ws i8) s wd fun V =>
          ∀ g q, 4 * g + q < laneCount f.fmt → q < 4 →
            lane V f.fmt (4 * g + q) = lane (s.rd ws) f.fmt (4 * g + i8 / 4 ^ q % 4))

/-- `sld` and `sldi` (group size and amount: decision D22), 47_permute section 4: within each group of `n`
bytes, byte `j` of the result is byte `j + m` of the group's `ws` bytes followed by its `wd` bytes. `sld`
takes `gpr_in mod n`, `sldi` its immediate. -/
def Obligations.Slides : Prop :=
  ∀ (s : State) (df : Fmt) (wd ws : Reg) (rt : Gpr) (m : Nat),
    let n := laneCount df
    let slid (q : Nat) (V : Vec) := ∀ g j, g < 16 / n → j < n →
      lane V .b (n * g + j) =
        if j + q < n then lane (s.rd ws) .b (n * g + (j + q)) else lane (s.rd wd) .b (n * g + (j + q - n))
    RowCommits (word3R 0b010100 0b000 df wd ws rt) (Instr.sld df wd ws rt) s wd
      (slid (s.gprIn.toNat % 2 ^ s.params.gprLen.bits % n)) ∧
    (m < n → RowCommits (wordElm 0b0000 df wd ws m) (Instr.sldi df wd ws m) s wd (slid m))

/-- R351, R352: the lane `gpr_in mod n`, or the immediate's lane, into every lane of `wd`. Presumed (log 20):
the reading of the scalar index (40 R137, D33), the word's layout (D14) and the modify bit set whether or not
the value changes (40 R141, D10, D26). -/
def Obligations.Splats : Prop :=
  ∀ (s : State) (df : Fmt) (wd ws : Reg) (rt : Gpr) (n : Nat),
    (RowCommits (word3R 0b010100 0b001 df wd ws rt) (Instr.splat df wd ws rt) s wd fun V =>
      ∀ k, k < laneCount df →
        lane V df k = lane (s.rd ws) df (s.gprIn.toNat % 2 ^ s.params.gprLen.bits % laneCount df)) ∧
    (n < laneCount df →
      RowCommits (wordElm 0b0001 df wd ws n) (Instr.splati df wd ws n) s wd fun V =>
        ∀ k, k < laneCount df → lane V df k = lane (s.rd ws) df n) ∧
    (laneCount df ≤ n → exec (Instr.splati df wd ws n) s = .fault (.reservedInstruction df n))

/-- `ldi` (47_permute section 5, decision D23) and `fill` (40_lane_accessor section 4, general knowledge,
decision D34). `fill.d` needs `GPRLEN = 64`. -/
def Obligations.LoadImmediateAndFill : Prop :=
  ∀ (s : State) (df : Fmt) (wd : Reg) (rs : Gpr) (s10 : Int),
    (-512 ≤ s10 → s10 ≤ 511 →
      RowLanes (wordI10 df wd (unsigned 10 s10)) (Instr.ldi df wd s10) s wd df (fun _ => s10)) ∧
    ((df = .d → s.params.gprLen = .w64) →
      RowCommits (word2R 0b000 df wd rs) (Instr.fill df wd rs) s wd fun V =>
        ∀ k, k < laneCount df → lane V df k = s.gprIn.setWidth (laneBits df))

/-! ## Element transfer (40) -/

/-- `copy_s` and `copy_u` (40_lane_accessor section 4, general knowledge, decision D34): the lane, sign- or
zero-extended and truncated to GPRLEN bits, leaves on `gpr_out` for `rd`; nothing else changes, no register
and no bit of `MODIFY`. `copy_s.d` and `copy_u.w` need `GPRLEN = 64`. -/
def Obligations.CopyToScalar : Prop :=
  ∀ (s : State) (df : Fmt) (f : FmtBhw) (rd : Gpr) (ws : Reg) (n : Nat),
    (n < laneCount df → (df = .d → s.params.gprLen = .w64) →
      decode (wordElm 0b0010 df rd ws n) = .ok (Instr.copyS df rd ws n) ∧
      exec (Instr.copyS df rd ws n) s =
        .next { s with gprOut := { rd := rd, value := match s.params.gprLen with
          | .w64 => (lane (s.rd ws) df n).signExtend 64
          | .w32 => ((lane (s.rd ws) df n).signExtend 32).setWidth 64 } }) ∧
    (n < laneCount f.fmt → (f = .w → s.params.gprLen = .w64) →
      decode (wordElm 0b0011 f.fmt rd ws n) = .ok (Instr.copyU f rd ws n) ∧
      exec (Instr.copyU f rd ws n) s =
        .next { s with gprOut := { rd := rd, value := (lane (s.rd ws) f.fmt n).setWidth 64 } })

/-- `insert`, `insve` and `move.v` (40_lane_accessor section 4, general knowledge, decision D34): one lane
replaced and every other lane kept, or the whole register copied. `insert.d` needs `GPRLEN = 64`. -/
def Obligations.InsertAndMove : Prop :=
  ∀ (s : State) (df : Fmt) (wd ws : Reg) (rs : Gpr) (n : Nat),
    (n < laneCount df → (df = .d → s.params.gprLen = .w64) →
      RowCommits (wordElm 0b0100 df wd rs n) (Instr.insert df wd rs n) s wd fun V => ∀ k, k < laneCount df →
        lane V df k = if k = n then s.gprIn.setWidth (laneBits df) else lane (s.rd wd) df k) ∧
    (n < laneCount df →
      RowCommits (wordElm 0b0101 df wd ws n) (Instr.insve df wd ws n) s wd fun V => ∀ k, k < laneCount df →
        lane V df k = if k = n then lane (s.rd ws) df 0 else lane (s.rd wd) df k) ∧
    RowCommits (wordMove 0b0010 wd ws) (.moveV wd ws) s wd (fun V => V = s.rd ws)

/-! ## The fault, the refusals, completion -/

/-- An immediate lane index is checked directly, on the unreduced value, before anything else (40_lane_accessor
section 1, 60_exceptions section 1): an operation faults exactly when it has one, at or above the lane count,
in a form that exists at this GPRLEN, and the fault carries the format and the index. The condition on GPRLEN
is not of those sections: a form that does not exist at this GPRLEN is reserved (30_encoding R107, section 6,
D15), and that its refusal comes before the index check is the model's choice (log 12). -/
def Obligations.LaneIndexOutOfRangeFaults : Prop :=
  ∀ (s : State) (i : Instr) (df : Fmt) (n : Nat),
    exec i s = .fault (.reservedInstruction df n) ↔
      (i.laneIndex = some (df, n) ∧ laneCount df ≤ n ∧ (i.needsGprLen64 = true → s.params.gprLen = .w64))

/-- R370, R372: the fault comes from an out-of-range lane index and from nothing else, no arithmetic value
among it. -/
def Obligations.FaultOnlyFromLaneIndex : Prop :=
  ∀ (s : State) (i : Instr) (f : Fault), exec i s = .fault f →
    ∃ df n, i.laneIndex = some (df, n) ∧ laneCount df ≤ n ∧ f = .reservedInstruction df n

/-- However long it runs, a machine whose dispatcher issues words, or descriptors with lane indexes in range,
hands over no fault: the fault is reachable only through the descriptor interface (60_exceptions section 1,
30_encoding section 1). What is issued is the model's input list (log 1), and handing a fault over adds it to
the model's list of faults (log 10). -/
def Obligations.InRangeInputNeverFaults : Prop :=
  ∀ s : State, (∀ e ∈ s.input, e.indexOk = true) → SafeRun s

/-- Every instruction completes whenever its immediate and lane index are in range and the form exists at this
GPRLEN (40_lane_accessor section 3, 70_reset_and_hazards section 4). -/
def Obligations.AdmittedInstructionsComplete : Prop :=
  ∀ (s : State) (i : Instr), i.wellFormed = true → i.laneIndexOk = true →
    (i.needsGprLen64 = true → s.params.gprLen = .w64) → ∃ t, exec i s = .next t

/-- A descriptor with an immediate outside its range, other than a lane index, is refused (30_encoding
section 1, decision D13). -/
def Obligations.IllFormedImmediateRefused : Prop :=
  ∀ (s : State) (i : Instr), i.wellFormed = false → exec i s = .refused .immediateOutOfRange

/-- The four forms that need a 64-bit scalar are refused when `GPRLEN = 32`, whatever their operands, and no
other instruction is (30_encoding section 6, decision D15). That the refusal comes before the lane-index check,
so that `copy_s.d` or `insert.d` with an index out of range is refused there and does not fault, is the model's
choice (log 12). -/
def Obligations.ReservedAtGprLen32 : Prop :=
  ∀ (s : State) (i : Instr),
    exec i s = .refused .reservedAtGprLen32 ↔ (i.needsGprLen64 = true ∧ s.params.gprLen = .w32)

/-! ## The whole machine -/

/-- What no instruction changes (10_state section 1): every wide register but the one it names as `wd`, the
operand port, the parameters, the input, the faults handed over; and the result port but for `copy_s` and
`copy_u`. -/
def Obligations.WritesOnlyNamedDestination : Prop :=
  ∀ (s t : State) (i : Instr), exec i s = .next t →
    (∀ r, i.vecDest ≠ some r → t.rd r = s.rd r) ∧ t.gprIn = s.gprIn ∧ t.params = s.params ∧
    t.input = s.input ∧ t.faults = s.faults ∧ (i.gprDest = none → t.gprOut = s.gprOut)

/-- What an instruction's result depends on (10_state section 1): the registers it names as sources, `gpr_in`
where it takes it, and the parameters; two states that agree on those get the same result. -/
def Obligations.ReadsOnlyNamedSources : Prop :=
  ∀ (s s' t t' : State) (i : Instr), s.params = s'.params → (i.readsGprIn = true → s.gprIn = s'.gprIn) →
    (∀ r ∈ i.sources, s.rd r = s'.rd r) → exec i s = .next t → exec i s' = .next t' →
    (∀ wd, i.vecDest = some wd → t.rd wd = t'.rd wd) ∧ (∀ rd, i.gprDest = some rd → t.gprOut = t'.gprOut)

/-- The modify signal (40_lane_accessor section 2, decisions D10 and D26): with tracking on, every completed
operation with a vector destination sets that register's bit and no other, changed or not; without tracking,
and for `copy_s` and `copy_u`, no bit changes. -/
def Obligations.ModifyUpdate : Prop :=
  ∀ (s t : State) (i : Instr), exec i s = .next t → ∀ j, j < 32 →
    t.modify.getLsbD j =
      (s.modify.getLsbD j || (s.params.trackEnable && decide (i.vecDest.map Fin.val = some j)))

/-- Repeating an operation whose destination is not among its sources gives the same state (20_memory
section 4). -/
def Obligations.RepeatGivesSameState : Prop :=
  ∀ (s t : State) (i : Instr), exec i s = .next t → (∀ wd, i.vecDest = some wd → wd ∉ i.sources) →
    exec i t = .next t

/-- The point of the modify bitmap (10_state section 5): while tracking is on, a register that differs from
what it held when the bitmap was last cleared has its bit set, and every step but a clearing keeps it so. That
every step keeps it rests on the model's events: none writes a wide register, as the container could between
operations (log 22); the collaborator's clearing is the event left out (log 18) and another context only sets
bits (log 17); and on the bit being set whether or not the value changed (40 R141, D10; log 20). -/
def Obligations.ModifiedRegistersStayMarked : Prop :=
  ∀ (base : Vector Vec 32) (s t : State), (∀ m rest, s.input ≠ .clearModify m :: rest) →
    TrackedSince base s → step s = .next t → TrackedSince base t

/-- At reset that invariant holds of the registers as reset leaves them and, where tracking is on, of no other
contents: `MODIFY` is zero (10_state section 8, decision D9), so it claims no register to have changed. -/
def Obligations.ModifiedRegistersMarkedAtReset : Prop :=
  ∀ base : Vector Vec 32,
    TrackedSince base State.reset ↔ (State.reset.params.trackEnable = false ∨ base = State.reset.w)

/-- Every step keeps both scalar ports within GPRLEN bits (10_state section 3; the ports' width is log 8 and
log 9). -/
def Obligations.PortsStayWithinGprLen : Prop :=
  ∀ s t : State, PortsWithinGprLen s → step s = .next t → PortsWithinGprLen t

/-- The ports are within GPRLEN bits at reset (the values are the model's choice, logs 8 and 9), where
`MODIFY` is zero (10_state section 8, decision D9), nothing has been issued (log 1) and no fault has been
handed over (log 10). -/
def Obligations.ResetPortsAndModify : Prop :=
  PortsWithinGprLen State.reset ∧ State.reset.modify = 0 ∧ State.reset.input = [] ∧ State.reset.faults = []

/-- No step changes the parameters: the block reads `TRACK_ENABLE` and never writes it (00_scope section 4,
10_state section 8). -/
def Obligations.ParametersNeverChange : Prop :=
  ∀ s t : State, step s = .next t → t.params = s.params

/-- R222: whatever the operands, every lane a compare leaves is exactly all zeros or all ones. -/
def Obligations.ComparesLeaveOnlyMasks : Prop :=
  ∀ (s t : State) (df : Fmt) (wd ws wt : Reg) (s5 : Int) (u5 : Nat) (i : Instr),
    i ∈ [Instr.ceq df wd ws wt, Instr.cltS df wd ws wt, Instr.cltU df wd ws wt, Instr.cleS df wd ws wt,
      Instr.cleU df wd ws wt, Instr.ceqi df wd ws s5, Instr.cltiS df wd ws s5, Instr.cltiU df wd ws u5,
      Instr.cleiS df wd ws s5, Instr.cleiU df wd ws u5] →
    exec i s = .next t → ∀ k, k < laneCount df →
      lane (t.rd wd) df k = 0 ∨ lane (t.rd wd) df k = BitVec.allOnes (laneBits df)

/-- R66 on the register views of 20_memory section 2: writing lane `i` of a format gives that lane and leaves
every byte lane outside it, every other register and the rest of the state as they were; and a half lane reads
as its two byte lanes, the lower one least significant (byte order: decision D7). -/
def Obligations.LaneWritesAreExact : Prop :=
  ∀ (s : State) (r : Reg) (df : Fmt) (i j : Nat) (v : Int), i < laneCount df →
    lane ((store s r df i v).rd r) df i = trunc df v ∧
    (∀ q, q ≠ r → (store s r df i v).rd q = s.rd q) ∧ { store s r df i v with w := s.w } = s ∧
    (j < 16 → (j < i * (laneBits df / 8) ∨ (i + 1) * (laneBits df / 8) ≤ j) →
      lane ((store s r df i v).rd r) .b j = lane (s.rd r) .b j) ∧
    (j < 8 → loadU s r .h j = loadU s r .b (2 * j) + 256 * loadU s r .b (2 * j + 1))

/-- Every staged operation writes every lane of the staging register before the commit (40_lane_accessor
section 2): whatever the register held before, `X`, the operation leaves the same state. The starting value is
the model's (log 15); the modify bit that `commit` sets is D10's (log 20). -/
def Obligations.StagingLeftoverNeverCommitted : Prop :=
  ∀ (s : State) (df : Fmt) (f : FmtBhw) (wd ws wt : Reg) (rt : Gpr) (i8 n : Nat) (X : Vec),
    let S := s.rd ws
    let T := s.rd wt
    let D := s.rd wd
    let leaves (i : Instr) (g : Fmt) (writes : List (Nat × Lane g)) : Prop :=
      exec i s = .next (commit s wd (stage g writes X))
    leaves (Instr.ilvev df wd ws wt) df (interleave df S T fun i => 2 * i) ∧
    leaves (Instr.ilvod df wd ws wt) df (interleave df S T fun i => 2 * i + 1) ∧
    leaves (Instr.ilvl df wd ws wt) df (interleave df S T fun i => laneCount df / 2 + i) ∧
    leaves (Instr.ilvr df wd ws wt) df (interleave df S T fun i => i) ∧
    leaves (Instr.pckev df wd ws wt) df (pack df S T fun i => 2 * i) ∧
    leaves (Instr.pckod df wd ws wt) df (pack df S T fun i => 2 * i + 1) ∧
    leaves (Instr.vshf df wd ws wt) df
      ((List.range (laneCount df)).map fun i => (i, vshfLane df S T (lane D df i))) ∧
    (i8 ≤ 255 → leaves (Instr.shf f wd ws i8) f.fmt
      ((List.range (laneCount f.fmt)).map fun i => (i, lane S f.fmt (shfIndex i8 i)))) ∧
    leaves (Instr.sld df wd ws rt) .b (slide df S D (s.gprIn.toNat % 2 ^ s.params.gprLen.bits % laneCount df)) ∧
    (n < laneCount df → leaves (Instr.sldi df wd ws n) .b (slide df S D n))
end

