-- ==== Sys2Proof/Laws/State.lean ====
section
/-! SUPPORT. What each update of the state does to each field. -/

namespace Sys2Proof.Machine

set_option Elab.async false

/-! ## Writing a wide register -/

@[simp] theorem State.rd_wr_same (s : State) (r : Reg) (v : Vec) : (s.wr r v).rd r = v := by
  simp [State.rd, State.wr, Vector.get_eq_getElem]

theorem State.rd_wr_ne (s : State) {r q : Reg} (v : Vec) (h : q ≠ r) : (s.wr r v).rd q = s.rd q := by
  have : r.val ≠ q.val := fun e => h (Fin.ext e.symm)
  simp [State.rd, State.wr, Vector.get_eq_getElem, this]

@[simp] theorem State.wr_modify (s : State) (r : Reg) (v : Vec) : (s.wr r v).modify = s.modify := rfl
@[simp] theorem State.wr_gprIn (s : State) (r : Reg) (v : Vec) : (s.wr r v).gprIn = s.gprIn := rfl
@[simp] theorem State.wr_gprOut (s : State) (r : Reg) (v : Vec) : (s.wr r v).gprOut = s.gprOut := rfl
@[simp] theorem State.wr_params (s : State) (r : Reg) (v : Vec) : (s.wr r v).params = s.params := rfl
@[simp] theorem State.wr_input (s : State) (r : Reg) (v : Vec) : (s.wr r v).input = s.input := rfl
@[simp] theorem State.wr_faults (s : State) (r : Reg) (v : Vec) : (s.wr r v).faults = s.faults := rfl

theorem State.wr_wr (s : State) (r : Reg) (v v' : Vec) : (s.wr r v).wr r v' = s.wr r v' := by
  simp [State.wr]

theorem State.wr_rd (s : State) (r : Reg) : s.wr r (s.rd r) = s := by
  simp [State.wr, State.rd, Vector.get_eq_getElem]

/-! ## The modify signal -/

@[simp] theorem signalModified_w (s : State) (r : Reg) : (signalModified s r).w = s.w := by
  unfold signalModified; split <;> rfl
@[simp] theorem signalModified_rd (s : State) (r q : Reg) : (signalModified s r).rd q = s.rd q := by
  simp [State.rd]
@[simp] theorem signalModified_gprIn (s : State) (r : Reg) : (signalModified s r).gprIn = s.gprIn := by
  unfold signalModified; split <;> rfl
@[simp] theorem signalModified_gprOut (s : State) (r : Reg) : (signalModified s r).gprOut = s.gprOut := by
  unfold signalModified; split <;> rfl
@[simp] theorem signalModified_params (s : State) (r : Reg) : (signalModified s r).params = s.params := by
  unfold signalModified; split <;> rfl
@[simp] theorem signalModified_input (s : State) (r : Reg) : (signalModified s r).input = s.input := by
  unfold signalModified; split <;> rfl
@[simp] theorem signalModified_faults (s : State) (r : Reg) : (signalModified s r).faults = s.faults := by
  unfold signalModified; split <;> rfl
theorem signalModified_modify (s : State) (r : Reg) :
    (signalModified s r).modify
      = if s.params.trackEnable then s.modify ||| oneBit 32 r.val else s.modify := by
  unfold signalModified; split <;> rfl

/-- The bit of `MODIFY` that stands for `w_r` is bit `r` (10_state R39). -/
theorem getLsbD_oneBit (n k j : Nat) : (oneBit n k).getLsbD j = (decide (j < n) && decide (j = k)) := by
  rw [oneBit, BitVec.getLsbD_ofNat, Nat.testBit_two_pow, decide_eq_decide.mpr (eq_comm (a := k) (b := j))]

/-! ## A completed operation -/

theorem commit_rd_same (s : State) (r : Reg) (v : Vec) : (commit s r v).rd r = v := by simp [commit]
theorem commit_rd_ne (s : State) {r q : Reg} (v : Vec) (h : q ≠ r) : (commit s r v).rd q = s.rd q := by
  simp [commit, State.rd_wr_ne s v h]
@[simp] theorem commit_gprIn (s : State) (r : Reg) (v : Vec) : (commit s r v).gprIn = s.gprIn := by
  simp [commit]
@[simp] theorem commit_gprOut (s : State) (r : Reg) (v : Vec) : (commit s r v).gprOut = s.gprOut := by
  simp [commit]
@[simp] theorem commit_params (s : State) (r : Reg) (v : Vec) : (commit s r v).params = s.params := by
  simp [commit]
@[simp] theorem commit_input (s : State) (r : Reg) (v : Vec) : (commit s r v).input = s.input := by
  simp [commit]
@[simp] theorem commit_faults (s : State) (r : Reg) (v : Vec) : (commit s r v).faults = s.faults := by
  simp [commit]
theorem commit_modify (s : State) (r : Reg) (v : Vec) :
    (commit s r v).modify = if s.params.trackEnable then s.modify ||| oneBit 32 r.val else s.modify := by
  rw [commit, signalModified_modify]; rfl

/-! ## The outside world's updates -/

@[simp] theorem clearModify_w (s : State) (m : BitVec 32) : (clearModify s m).w = s.w := rfl
@[simp] theorem clearModify_modify (s : State) (m : BitVec 32) :
    (clearModify s m).modify = s.modify &&& ~~~m := rfl
@[simp] theorem clearModify_gprIn (s : State) (m : BitVec 32) : (clearModify s m).gprIn = s.gprIn := rfl
@[simp] theorem clearModify_gprOut (s : State) (m : BitVec 32) : (clearModify s m).gprOut = s.gprOut := rfl
@[simp] theorem clearModify_params (s : State) (m : BitVec 32) : (clearModify s m).params = s.params := rfl
@[simp] theorem clearModify_input (s : State) (m : BitVec 32) : (clearModify s m).input = s.input := rfl
@[simp] theorem clearModify_faults (s : State) (m : BitVec 32) : (clearModify s m).faults = s.faults := rfl
@[simp] theorem contextOr_w (s : State) (m : BitVec 32) : (contextOr s m).w = s.w := rfl
@[simp] theorem contextOr_modify (s : State) (m : BitVec 32) :
    (contextOr s m).modify = s.modify ||| m := rfl
@[simp] theorem contextOr_gprIn (s : State) (m : BitVec 32) : (contextOr s m).gprIn = s.gprIn := rfl
@[simp] theorem contextOr_gprOut (s : State) (m : BitVec 32) : (contextOr s m).gprOut = s.gprOut := rfl
@[simp] theorem contextOr_params (s : State) (m : BitVec 32) : (contextOr s m).params = s.params := rfl
@[simp] theorem contextOr_input (s : State) (m : BitVec 32) : (contextOr s m).input = s.input := rfl
@[simp] theorem contextOr_faults (s : State) (m : BitVec 32) : (contextOr s m).faults = s.faults := rfl
@[simp] theorem driveGprIn_w (s : State) (v : Scalar) : (driveGprIn s v).w = s.w := rfl
@[simp] theorem driveGprIn_rd (s : State) (v : Scalar) (r : Reg) : (driveGprIn s v).rd r = s.rd r := rfl
@[simp] theorem driveGprIn_modify (s : State) (v : Scalar) : (driveGprIn s v).modify = s.modify := rfl
@[simp] theorem driveGprIn_gprOut (s : State) (v : Scalar) : (driveGprIn s v).gprOut = s.gprOut := rfl
@[simp] theorem driveGprIn_params (s : State) (v : Scalar) : (driveGprIn s v).params = s.params := rfl
@[simp] theorem driveGprIn_input (s : State) (v : Scalar) : (driveGprIn s v).input = s.input := rfl
@[simp] theorem driveGprIn_faults (s : State) (v : Scalar) : (driveGprIn s v).faults = s.faults := rfl

/-! ## Handing over a fault -/

@[simp] theorem handOver_next (s t : State) : handOver s (.next t) = .next t := rfl
@[simp] theorem handOver_fault (s : State) (f : Fault) :
    handOver s (.fault f) = .next { s with faults := s.faults ++ [f] } := rfl
@[simp] theorem handOver_refused (s : State) (why : Refusal) : handOver s (.refused why) = .refused why := rfl

/-- A step that hands over an operation's outcome goes on in one of two ways. -/
theorem handOver_eq_next {s t : State} {r : Result} :
    handOver s r = .next t ↔ r = .next t ∨ ∃ f, r = .fault f ∧ t = { s with faults := s.faults ++ [f] } := by
  cases r <;> simp [eq_comm]

theorem handOver_ne_fault (s : State) (r : Result) (f : Fault) : handOver s r ≠ .fault f := by
  cases r <;> simp

theorem handle_ne_fault (e : Event) (s : State) (f : Fault) : handle e s ≠ .fault f := by
  cases e with
  | word w g =>
    rw [handle, issueWord]
    rcases decode w with why | i
    · exact fun h => nomatch h
    · exact handOver_ne_fault _ _ _
  | descriptor i g => exact handOver_ne_fault _ _ _
  | clearModify m => exact fun h => nomatch h
  | contextOr m => exact fun h => nomatch h

/-- No step ends in a fault: the block hands it over (60 R375). -/
theorem step_ne_fault (s : State) (f : Fault) : step s ≠ .fault f := by
  rw [step]
  rcases s.input with - | ⟨e, rest⟩
  · exact fun h => nomatch h
  · exact handle_ne_fault _ _ _

end Sys2Proof.Machine
end

