-- ==== Sys2Proof/Laws/Lane.lean ====
section
/-! SUPPORT. The laws of the lane accessor: a lane read after a lane written, in the same place and elsewhere,
and that the lanes of one format are the whole register (10_state R31, R32; 20_memory R66). -/

namespace Sys2Proof.Machine

set_option Elab.async false

theorem laneBits_pos (df : Fmt) : 0 < laneBits df := by cases df <;> decide

theorem laneCount_pos (df : Fmt) : 0 < laneCount df := by cases df <;> decide

/-- The lanes of a format fill the register exactly (00_scope R9). -/
theorem laneCount_mul_laneBits (df : Fmt) : laneCount df * laneBits df = 128 := by cases df <;> decide

theorem lane_fits {df : Fmt} {i : Nat} (h : i < laneCount df) : i * laneBits df + laneBits df ≤ 128 := by
  rw [← laneCount_mul_laneBits df, ← Nat.succ_mul]
  exact Nat.mul_le_mul_right _ h

theorem getLsbD_lane (V : Vec) (df : Fmt) (i j : Nat) :
    (lane V df i).getLsbD j = (decide (j < laneBits df) && V.getLsbD (i * laneBits df + j)) := by
  simp [lane, BitVec.getLsbD_extractLsb']

theorem getLsbD_putLane (V : Vec) (df : Fmt) (i : Nat) (x : Lane df) {j : Nat} (hj : j < 128) :
    (putLane V df i x).getLsbD j
      = if i * laneBits df ≤ j ∧ j < i * laneBits df + laneBits df then x.getLsbD (j - i * laneBits df)
        else V.getLsbD j := by
  simp only [putLane, BitVec.getLsbD_or, BitVec.getLsbD_and, BitVec.getLsbD_not, BitVec.getLsbD_shiftLeft,
    BitVec.getLsbD_setWidth, BitVec.getLsbD_allOnes, hj, decide_true, Bool.true_and]
  by_cases h1 : j < i * laneBits df
  · simp [h1, Nat.not_le.mpr h1]
  · by_cases h2 : j < i * laneBits df + laneBits df
    · have h3 : j - i * laneBits df < laneBits df := by omega
      have h4 : j - i * laneBits df < 128 := by omega
      simp [h1, h2, h3, h4, Nat.not_lt.mp h1]
    · have h3 : ¬ j - i * laneBits df < laneBits df := by omega
      simp [h1, h2, h3, BitVec.getLsbD_of_ge _ _ (Nat.not_lt.mp h3)]

theorem lane_putLane_same (V : Vec) (df : Fmt) {i : Nat} (x : Lane df) (h : i < laneCount df) :
    lane (putLane V df i x) df i = x := by
  apply BitVec.eq_of_getLsbD_eq
  intro j hj
  have := lane_fits h
  rw [getLsbD_lane, getLsbD_putLane _ _ _ _ (by omega)]
  simp [hj]

theorem lane_putLane_ne (V : Vec) (df : Fmt) {i k : Nat} (x : Lane df) (hk : k < laneCount df)
    (hne : k ≠ i) : lane (putLane V df i x) df k = lane V df k := by
  apply BitVec.eq_of_getLsbD_eq
  intro j hj
  have := lane_fits hk
  rw [getLsbD_lane, getLsbD_lane, getLsbD_putLane _ _ _ _ (by omega), if_neg]
  rintro ⟨h1, h2⟩
  rcases Nat.lt_or_gt_of_ne hne with h | h
  · have := Nat.mul_le_mul_right (laneBits df) (Nat.succ_le_of_lt h)
    rw [Nat.succ_mul] at this
    omega
  · have := Nat.mul_le_mul_right (laneBits df) (Nat.succ_le_of_lt h)
    rw [Nat.succ_mul] at this
    omega

/-- Two register values with the same lanes, in any one format, are the same value (10_state R31). -/
theorem eq_of_lanes (df : Fmt) {V W : Vec} (h : ∀ k, k < laneCount df → lane V df k = lane W df k) : V = W := by
  apply BitVec.eq_of_getLsbD_eq
  intro j hj
  have hb := laneBits_pos df
  have hk : j / laneBits df < laneCount df := by
    rw [Nat.div_lt_iff_lt_mul hb, laneCount_mul_laneBits]; exact hj
  have := congrArg (BitVec.getLsbD · (j % laneBits df)) (h _ hk)
  simpa only [getLsbD_lane, Nat.mod_lt _ hb, Nat.div_add_mod', decide_true, Bool.true_and] using this

theorem eq_of_lanes_trunc (df : Fmt) {V W : Vec} {f : Nat → Int}
    (hV : ∀ k, k < laneCount df → lane V df k = trunc df (f k))
    (hW : ∀ k, k < laneCount df → lane W df k = trunc df (f k)) : V = W :=
  eq_of_lanes df fun k hk => (hV k hk).trans (hW k hk).symm

/-! ## Loads and stores in range -/

theorem loadLane_of_lt (s : State) (r : Reg) {df : Fmt} {i : Nat} (h : i < laneCount df) :
    loadLane s r df i = lane (s.rd r) df i := by simp [loadLane, Nat.mod_eq_of_lt h]

theorem store_of_lt (s : State) (r : Reg) {df : Fmt} {i : Nat} (v : Int) (h : i < laneCount df) :
    store s r df i v = s.wr r (putLane (s.rd r) df i (trunc df v)) := by
  simp [store, Nat.mod_eq_of_lt h]

/-- The modulo path's index always passes `checkIndex` (40 R135). -/
theorem checkIndex_mod (df : Fmt) (i : Nat) (rest : Result) : checkIndex df (i % laneCount df) rest = rest := by
  have := Nat.mod_lt i (laneCount_pos df)
  simp [checkIndex]; omega

theorem checkIndex_of_lt {df : Fmt} {k : Nat} (h : k < laneCount df) (rest : Result) :
    checkIndex df k rest = rest := by
  have : ¬ laneCount df - 1 < k := by omega
  simp [checkIndex, this]

theorem checkIndex_of_ge {df : Fmt} {k : Nat} (h : laneCount df ≤ k) (rest : Result) :
    checkIndex df k rest = .fault (.reservedInstruction df k) := by
  have := laneCount_pos df
  have : laneCount df - 1 < k := by omega
  simp [checkIndex, raiseReserved, this]

/-! ## Truncation and extension -/

/-- A lane stored and truncated from its own signed reading is itself. -/
@[simp] theorem trunc_sext (df : Fmt) (x : Lane df) : trunc df (sext x) = x := by simp [trunc, sext]

/-- A lane stored and truncated from its own unsigned reading is itself. -/
@[simp] theorem trunc_zext (df : Fmt) (x : Lane df) : trunc df (zext x) = x := by simp [trunc, zext]

end Sys2Proof.Machine
end

