-- ==== Sys2Proof/Laws/Drivers.lean ====
section
/-! SUPPORT. What each driver does, once: its result is a completed operation whose lanes are the kernel's values
on the registers as they were before it, whatever registers coincide (70_reset R395). -/

namespace Sys2Proof.Machine

set_option Elab.async false

/-- A kernel that reads only lane `i` of registers, and nothing a lane store changes, to compute lane `i`. -/
def LaneLocal (df : Fmt) (f : State → Nat → Int) : Prop :=
  ∀ s wd V i, i < laneCount df → lane V df i = lane (s.rd wd) df i → f (s.wr wd V) i = f s i

theorem loadLane_wr_of_lane_eq (s : State) (r wd : Reg) (V : Vec) (df : Fmt) {i : Nat} (hi : i < laneCount df)
    (h : lane V df i = lane (s.rd wd) df i) : loadLane (s.wr wd V) r df i = loadLane s r df i := by
  rw [loadLane_of_lt _ _ hi, loadLane_of_lt _ _ hi]
  by_cases hr : r = wd
  · subst hr; simp [h]
  · rw [State.rd_wr_ne _ _ hr]

theorem laneSweep_spec {df : Fmt} {wd : Reg} {f : State → Nat → Int} (hf : LaneLocal df f) :
    ∀ (l : List Nat) (s : State), l.Nodup → (∀ i ∈ l, i < laneCount df) →
      ∃ V, laneSweep df wd f l s = s.wr wd V ∧
        ∀ k, k < laneCount df → lane V df k = if k ∈ l then trunc df (f s k) else lane (s.rd wd) df k := by
  intro l
  induction l with
  | nil => intro s _ _; exact ⟨s.rd wd, by simp [laneSweep, State.wr_rd], by simp⟩
  | cons i is ih =>
    intro s hnd hlt
    have hi : i < laneCount df := hlt i (by simp)
    obtain ⟨hni, hnd'⟩ := List.nodup_cons.mp hnd
    obtain ⟨V, hV, hl⟩ := ih (store s wd df i (f s i)) hnd' (fun j hj => hlt j (by simp [hj]))
    refine ⟨V, ?_, ?_⟩
    · rw [laneSweep, hV, store_of_lt _ _ _ hi, State.wr_wr]
    · intro k hk
      rw [hl k hk, store_of_lt _ _ _ hi]
      by_cases hki : k = i
      · subst hki
        simp [hni, lane_putLane_same _ _ _ hi]
      · have hloc : f (s.wr wd (putLane (s.rd wd) df i (trunc df (f s i)))) k = f s k :=
          hf s wd _ k hk (lane_putLane_ne _ _ _ hk hki)
        simp [hki, hloc, lane_putLane_ne _ _ _ hk hki]

/-- The lane-wise driver completes, and lane `k` of `wd` is the kernel's value on the state before. -/
theorem laneDriver_spec {df : Fmt} {wd : Reg} {f : State → Nat → Int} (hf : LaneLocal df f) (s : State) :
    ∃ V, laneDriver df wd f s = .next (commit s wd V) ∧
      ∀ k, k < laneCount df → lane V df k = trunc df (f s k) := by
  obtain ⟨V, hV, hl⟩ := laneSweep_spec (wd := wd) hf (List.range (laneCount df)) s List.nodup_range
    (fun i hi => List.mem_range.mp hi)
  refine ⟨V, by simp [laneDriver, done, commit, hV], fun k hk => ?_⟩
  rw [hl k hk, if_pos (List.mem_range.mpr hk)]

theorem lanewise3_spec (df : Fmt) (wd ws wt : Reg) (k : Lane df → Lane df → Lane df → Int) (s : State) :
    ∃ V, lanewise3 df wd ws wt k s = .next (commit s wd V) ∧
      ∀ i, i < laneCount df → lane V df i = trunc df (k (loadLane s wd df i) (loadLane s ws df i) (loadLane s wt df i)) :=
  laneDriver_spec (fun s' r V i hi h => by
    simp only [loadLane_wr_of_lane_eq s' _ r V df hi h]) s

theorem lanewise2_spec (df : Fmt) (wd ws : Reg) (k : Lane df → Lane df → Int) (s : State) :
    ∃ V, lanewise2 df wd ws k s = .next (commit s wd V) ∧
      ∀ i, i < laneCount df → lane V df i = trunc df (k (loadLane s wd df i) (loadLane s ws df i)) :=
  laneDriver_spec (fun s' r V i hi h => by
    simp only [loadLane_wr_of_lane_eq s' _ r V df hi h]) s

theorem broadcast_spec (df : Fmt) (wd : Reg) (v : Int) (s : State) :
    ∃ V, broadcast df wd v s = .next (commit s wd V) ∧
      ∀ i, i < laneCount df → lane V df i = trunc df v :=
  laneDriver_spec (fun _ _ _ _ _ _ => rfl) s

theorem whole_spec (wd : Reg) (V : Vec) (s : State) : whole wd V s = .next (commit s wd V) := rfl

theorem oneLane_spec (df : Fmt) (wd : Reg) {i : Nat} (v : Int) (s : State) (hi : i < laneCount df) :
    oneLane df wd i v s = .next (commit s wd (putLane (s.rd wd) df i (trunc df v))) := by
  simp [oneLane, done, commit, store_of_lt _ _ _ hi]

/-! ## The staged driver -/

/-- A lane that no write of a staging list names keeps what the staging register held. -/
theorem lane_stage_of_not_mem (df : Fmt) {k : Nat} (hk : k < laneCount df) :
    ∀ (ws : List (Nat × Lane df)) (X : Vec), (∀ p ∈ ws, p.1 < laneCount df) → (∀ p ∈ ws, p.1 ≠ k) →
      lane (stage df ws X) df k = lane X df k := by
  intro ws
  induction ws with
  | nil => intro X _ _; rfl
  | cons p ps ih =>
    intro X hlt hne
    obtain ⟨i, x⟩ := p
    have hi : i < laneCount df := hlt (i, x) (by simp)
    have hik : k ≠ i := fun e => hne (i, x) (by simp) e.symm
    rw [stage, ih _ (fun p hp => hlt p (by simp [hp])) (fun p hp => hne p (by simp [hp])),
      Nat.mod_eq_of_lt hi, lane_putLane_ne _ _ _ hk hik]

/-- A lane a staging list writes, once, holds what was written (40 R139). -/
theorem lane_stage_of_mem (df : Fmt) {k : Nat} {x : Lane df} :
    ∀ (ws : List (Nat × Lane df)) (X : Vec), (∀ p ∈ ws, p.1 < laneCount df) → (ws.map Prod.fst).Nodup →
      (k, x) ∈ ws → lane (stage df ws X) df k = x := by
  intro ws
  induction ws with
  | nil => intro X _ _ h; simp at h
  | cons p ps ih =>
    intro X hlt hnd hmem
    obtain ⟨i, y⟩ := p
    have hi : i < laneCount df := hlt (i, y) (by simp)
    simp only [List.map_cons, List.nodup_cons] at hnd
    rcases List.mem_cons.mp hmem with heq | hmem'
    · obtain ⟨rfl, rfl⟩ := Prod.mk.inj heq
      rw [stage, lane_stage_of_not_mem df hi _ _ (fun p hp => hlt p (by simp [hp])), Nat.mod_eq_of_lt hi,
        lane_putLane_same _ _ _ hi]
      rintro ⟨a, b⟩ hp rfl
      exact hnd.1 (List.mem_map.mpr ⟨_, hp, rfl⟩)
    · exact ih _ (fun p hp => hlt p (by simp [hp])) hnd.2 hmem'

theorem staged_eq (df : Fmt) (wd : Reg) (ws : List (Nat × Lane df)) (s : State) :
    staged df wd ws s = .next (commit s wd (stage df ws 0)) := rfl

end Sys2Proof.Machine
end

