-- ==== Sys2Proof/Laws/Encoding.lean ====
section
/-! SUPPORT. What the decoder reads from a word of each format: its fields are the ones the word was built from
(30_encoding R85 to R98). One lemma per format; a row's own decoding is its instance. -/

namespace Sys2Proof

set_option Elab.async false

/-! ## The fields of a word -/

theorem toNat_wordMsa {minor top : Nat} (wd ws : Fin 32) (hm : minor < 64) (ht : top < 1024) :
    (wordMsa minor wd ws top).toNat
      = 30 * 2 ^ 26 + top * 2 ^ 16 + ws.val * 2 ^ 11 + wd.val * 2 ^ 6 + minor := by
  have := wd.isLt; have := ws.isLt
  rw [wordMsa, BitVec.toNat_ofNat]; omega

/-- Bits 31:26 of an MSA word are 011110, and what follows is the minor opcode's (R85, R86). -/
theorem decode_wordMsa {minor top : Nat} (wd ws : Fin 32) (hm : minor < 64) (ht : top < 1024) :
    decode (wordMsa minor wd ws top) = decodeMinor (wordMsa minor wd ws top).toNat := by
  have := wd.isLt; have := ws.isLt
  rw [decode, if_pos]
  rw [toNat_wordMsa wd ws hm ht, field]; omega

theorem field_minor {minor top : Nat} (wd ws : Fin 32) (hm : minor < 64) (ht : top < 1024) :
    field (wordMsa minor wd ws top).toNat 5 0 = minor := by
  have := wd.isLt; have := ws.isLt
  rw [toNat_wordMsa wd ws hm ht, field]; omega

theorem regField_wd {minor top : Nat} (wd ws : Fin 32) (hm : minor < 64) (ht : top < 1024) :
    regField (wordMsa minor wd ws top).toNat 6 = wd := by
  have := wd.isLt; have := ws.isLt
  apply Fin.ext
  simp only [regField, toNat_wordMsa wd ws hm ht]; omega

theorem regField_ws {minor top : Nat} (wd ws : Fin 32) (hm : minor < 64) (ht : top < 1024) :
    regField (wordMsa minor wd ws top).toNat 11 = ws := by
  have := wd.isLt; have := ws.isLt
  apply Fin.ext
  simp only [regField, toNat_wordMsa wd ws hm ht]; omega

/-- A field within bits 25:16 is the same field of those ten bits. -/
theorem field_top {minor top : Nat} (wd ws : Fin 32) (hm : minor < 64) (ht : top < 1024) (k l : Nat)
    (hl : l ≤ k) (hk : k < 10) :
    field (wordMsa minor wd ws top).toNat (16 + k) (16 + l) = field top k l := by
  have := wd.isLt; have := ws.isLt
  rw [toNat_wordMsa wd ws hm ht, field, field, Nat.pow_add, ← Nat.div_div_eq_div_mul]
  have h1 : (30 * 2 ^ 26 + top * 2 ^ 16 + ws.val * 2 ^ 11 + wd.val * 2 ^ 6 + minor) / 2 ^ 16
      = 30 * 2 ^ 10 + top := by omega
  have h2 : 16 + k + 1 - (16 + l) = k + 1 - l := by omega
  have h3 : (30 * 2 ^ 10 + top) / 2 ^ l = 30 * 2 ^ (10 - l) + top / 2 ^ l := by
    have : 2 ^ 10 = 2 ^ l * 2 ^ (10 - l) := by rw [← Nat.pow_add]; congr 1; omega
    rw [this, Nat.mul_left_comm, Nat.mul_add_div (Nat.two_pow_pos l)]
  have h4 : 30 * 2 ^ (10 - l) = 2 ^ (k + 1 - l) * (30 * 2 ^ (9 - k)) := by
    rw [Nat.mul_left_comm, ← Nat.pow_add]; congr 2; omega
  rw [h1, h2, h3, h4, Nat.mul_add_mod]

theorem fmtCode_lt (df : Fmt) : fmtCode df < 4 := by cases df <;> decide
theorem fmtOf_fmtCode (df : Fmt) : fmtOf (fmtCode df) = df := by cases df <;> rfl

theorem dfmOf_dfmCode {df : Fmt} {m : Nat} (h : m < laneBits df) : dfmOf (dfmCode df m) = some (df, m) := by
  generalize hu : dfmCode df m = u
  cases df <;> simp only [laneBits, dfmCode] at h hu <;> simp only [dfmOf]
  · rw [if_neg (by omega), if_neg (by omega), if_neg (by omega), if_pos (by omega), ← hu, Nat.add_sub_cancel_left]
  · rw [if_neg (by omega), if_neg (by omega), if_pos (by omega), ← hu, Nat.add_sub_cancel_left]
  · rw [if_neg (by omega), if_pos (by omega), ← hu, Nat.add_sub_cancel_left]
  · rw [if_pos (by omega), hu]

theorem dfmCode_lt {df : Fmt} {m : Nat} (h : m < laneBits df) : dfmCode df m < 128 := by
  cases df <;> simp only [laneBits] at h <;> simp only [dfmCode] <;> omega

theorem laneCount_eq (df : Fmt) :
    laneCount df = match df with | .b => 16 | .h => 8 | .w => 4 | .d => 2 := by cases df <;> rfl

theorem dfnOf_dfnCode {df : Fmt} {n : Nat} (h : n < laneCount df) : dfnOf (dfnCode df n) = some (df, n) := by
  generalize hu : dfnCode df n = u
  cases df <;> simp only [laneCount_eq, dfnCode] at h hu <;> simp only [dfnOf]
  · rw [if_pos (by omega), hu]
  · rw [if_neg (by omega), if_pos (by omega), ← hu, Nat.add_sub_cancel_left]
  · rw [if_neg (by omega), if_neg (by omega), if_pos (by omega), ← hu, Nat.add_sub_cancel_left]
  · rw [if_neg (by omega), if_neg (by omega), if_neg (by omega), if_pos (by omega), ← hu,
      Nat.add_sub_cancel_left]

theorem dfnCode_lt {df : Fmt} {n : Nat} (h : n < laneCount df) : dfnCode df n < 62 := by
  cases df <;> simp only [laneCount_eq] at h <;> simp only [dfnCode] <;> omega

/-! ## Immediates as fields -/

theorem unsigned_lt (n : Nat) (v : Int) : unsigned n v < 2 ^ n := by
  have h : (0 : Int) < 2 ^ n := by positivity
  have := Int.emod_lt_of_pos v h
  have := Int.emod_nonneg v (ne_of_gt h)
  have h2 : ((2 : Nat) ^ n : Nat) = (2 : Int) ^ n := by push_cast; rfl
  rw [unsigned]; omega

theorem signed_unsigned5 {v : Int} (h1 : -16 ≤ v) (h2 : v ≤ 15) : signed 5 (unsigned 5 v) = v := by
  have h : signed 5 (unsigned 5 v) = if (v % 32).toNat < 16 then ((v % 32).toNat : Int) else (v % 32).toNat - 32 := rfl
  rw [h]; split <;> omega

theorem signed_unsigned10 {v : Int} (h1 : -512 ≤ v) (h2 : v ≤ 511) : signed 10 (unsigned 10 v) = v := by
  have h : signed 10 (unsigned 10 v)
    = if (v % 1024).toNat < 512 then ((v % 1024).toNat : Int) else (v % 1024).toNat - 1024 := rfl
  rw [h]; split <;> omega

/-! ## The minor opcodes (R86) -/

theorem decodeMinor_i8 {x m : Nat} (h : field x 5 0 = m) (hm : m ≤ 2) :
    decodeMinor x = decodeI8 m (field x 25 24) (field x 23 16) (regField x 6) (regField x 11) := by
  rw [decodeMinor, h]; interval_cases m <;> rfl

theorem decodeMinor_i5 {x m : Nat} (h : field x 5 0 = m) (hm : m = 6 ∨ m = 7) :
    decodeMinor x = decodeI5 m (field x 25 23) (fmtOf (field x 22 21)) (field x 20 16) (field x 20 11)
      (regField x 6) (regField x 11) := by
  rw [decodeMinor, h]; rcases hm with rfl | rfl <;> rfl

theorem decodeMinor_bit {x m : Nat} (h : field x 5 0 = m) (hm : m = 9 ∨ m = 10) :
    decodeMinor x = decodeBitWord x := by
  rw [decodeMinor, h]; rcases hm with rfl | rfl <;> rfl

theorem decodeMinor_3R {x m : Nat} (h : field x 5 0 = m) (hm : 13 ≤ m ∧ m ≤ 21) :
    decodeMinor x = decode3R m (field x 25 23) (fmtOf (field x 22 21)) (regField x 6) (regField x 11)
      (regField x 16) := by
  obtain ⟨h1, h2⟩ := hm
  rw [decodeMinor, h]; interval_cases m <;> rfl

theorem decodeMinor_elm {x : Nat} (h : field x 5 0 = 25) : decodeMinor x = decodeElmWord x := by
  rw [decodeMinor, h]; rfl

theorem decodeMinor_3RF {x : Nat} (h : field x 5 0 = 28) :
    decodeMinor x = decode3RF (field x 25 22) (if field x 21 21 = 0 then .h else .w) (regField x 6)
      (regField x 11) (regField x 16) := by
  rw [decodeMinor, h]; rfl

theorem decodeMinor_vec {x : Nat} (h : field x 5 0 = 30) : decodeMinor x = decodeVecWord x := by
  rw [decodeMinor, h]; rfl

/-! ## The formats -/

theorem decode_word3R {minor op : Nat} (df : Fmt) (wd ws wt : Fin 32) (hm : 13 ≤ minor ∧ minor ≤ 21)
    (ho : op < 8) : decode (word3R minor op df wd ws wt) = decode3R minor op df wd ws wt := by
  have hm' : minor < 64 := by omega
  have hf := fmtCode_lt df
  have hw := wt.isLt
  have ht : op * 2 ^ 7 + fmtCode df * 2 ^ 5 + wt.val < 1024 := by omega
  rw [word3R, decode_wordMsa wd ws hm' ht, decodeMinor_3R (field_minor wd ws hm' ht) hm, regField_wd wd ws hm' ht,
    regField_ws wd ws hm' ht, field_top wd ws hm' ht 9 7 (by omega) (by omega),
    field_top wd ws hm' ht 6 5 (by omega) (by omega)]
  have e1 : field (op * 2 ^ 7 + fmtCode df * 2 ^ 5 + wt.val) 9 7 = op := by rw [field]; omega
  have e2 : field (op * 2 ^ 7 + fmtCode df * 2 ^ 5 + wt.val) 6 5 = fmtCode df := by rw [field]; omega
  have e3 : regField (wordMsa minor wd ws (op * 2 ^ 7 + fmtCode df * 2 ^ 5 + wt.val)).toNat 16 = wt := by
    apply Fin.ext
    have := wd.isLt; have := ws.isLt
    simp only [regField, toNat_wordMsa wd ws hm' ht]; omega
  rw [e1, e2, e3, fmtOf_fmtCode]

theorem decode_wordI5 {minor op i5 : Nat} (df : Fmt) (wd ws : Fin 32) (hm : minor = 6 ∨ minor = 7)
    (ho : op < 8) (hi : i5 < 32) :
    decode (wordI5 minor op df wd ws i5) = decodeI5 minor op df i5 (i5 * 32 + ws.val) wd ws := by
  have hm' : minor < 64 := by omega
  have hf := fmtCode_lt df
  have ht : op * 2 ^ 7 + fmtCode df * 2 ^ 5 + i5 < 1024 := by omega
  rw [wordI5, decode_wordMsa wd ws hm' ht, decodeMinor_i5 (field_minor wd ws hm' ht) hm, regField_wd wd ws hm' ht,
    regField_ws wd ws hm' ht, field_top wd ws hm' ht 9 7 (by omega) (by omega),
    field_top wd ws hm' ht 6 5 (by omega) (by omega), field_top wd ws hm' ht 4 0 (by omega) (by omega)]
  have e1 : field (op * 2 ^ 7 + fmtCode df * 2 ^ 5 + i5) 9 7 = op := by rw [field]; omega
  have e2 : field (op * 2 ^ 7 + fmtCode df * 2 ^ 5 + i5) 6 5 = fmtCode df := by rw [field]; omega
  have e3 : field (op * 2 ^ 7 + fmtCode df * 2 ^ 5 + i5) 4 0 = i5 := by rw [field]; omega
  have e4 : field (wordMsa minor wd ws (op * 2 ^ 7 + fmtCode df * 2 ^ 5 + i5)).toNat 20 11
      = i5 * 32 + ws.val := by
    have := wd.isLt; have := ws.isLt
    rw [toNat_wordMsa wd ws hm' ht, field]; omega
  rw [e1, e2, e3, e4, fmtOf_fmtCode]

theorem decode_wordI10 {i10 : Nat} (df : Fmt) (wd : Fin 32) (hi : i10 < 1024) :
    decode (wordI10 df wd i10) = .ok (Instr.ldi df wd (signed 10 i10)) := by
  have h : wordI10 df wd i10
      = wordMsa 7 wd ⟨i10 % 32, Nat.mod_lt _ (by decide)⟩ (6 * 2 ^ 7 + fmtCode df * 2 ^ 5 + i10 / 32) := by
    rw [wordI10, wordMsa]; congr 1; simp only; omega
  have hf := fmtCode_lt df
  have ht : 6 * 2 ^ 7 + fmtCode df * 2 ^ 5 + i10 / 32 < 1024 := by omega
  rw [h, decode_wordMsa _ _ (by decide) ht, decodeMinor_i5 (field_minor _ _ (by decide) ht) (.inr rfl),
    regField_wd _ _ (by decide) ht, field_top _ _ (by decide) ht 9 7 (by omega) (by omega),
    field_top _ _ (by decide) ht 6 5 (by omega) (by omega)]
  have e1 : field (6 * 2 ^ 7 + fmtCode df * 2 ^ 5 + i10 / 32) 9 7 = 6 := by rw [field]; omega
  have e2 : field (6 * 2 ^ 7 + fmtCode df * 2 ^ 5 + i10 / 32) 6 5 = fmtCode df := by rw [field]; omega
  have e4 : field (wordMsa 7 wd ⟨i10 % 32, Nat.mod_lt _ (by decide)⟩
      (6 * 2 ^ 7 + fmtCode df * 2 ^ 5 + i10 / 32)).toNat 20 11 = i10 := by
    have := wd.isLt
    rw [toNat_wordMsa _ _ (by decide) ht, field]; simp only; omega
  rw [e1, e2, e4, fmtOf_fmtCode]; rfl

theorem decode_wordBit {minor op m : Nat} {df : Fmt} (wd ws : Fin 32) (hm : minor = 9 ∨ minor = 10)
    (ho : op < 8) (h : m < laneBits df) :
    decode (wordBit minor op df wd ws m) = decodeBit minor op df m wd ws := by
  have hm' : minor < 64 := by omega
  have hc := dfmCode_lt h
  have ht : op * 2 ^ 7 + dfmCode df m < 1024 := by omega
  have e1 : field (op * 2 ^ 7 + dfmCode df m) 9 7 = op := by rw [field]; omega
  have e2 : field (op * 2 ^ 7 + dfmCode df m) 6 0 = dfmCode df m := by rw [field]; omega
  rw [wordBit, decode_wordMsa wd ws hm' ht, decodeMinor_bit (field_minor wd ws hm' ht) hm, decodeBitWord,
    field_minor wd ws hm' ht, regField_wd wd ws hm' ht, regField_ws wd ws hm' ht,
    field_top wd ws hm' ht 9 7 (by omega) (by omega), field_top wd ws hm' ht 6 0 (by omega) (by omega), e1, e2,
    dfmOf_dfmCode h]

theorem decode_wordI8 {minor op i8 : Nat} (wd ws : Fin 32) (hm : minor ≤ 2) (ho : op < 4) (hi : i8 < 256) :
    decode (wordI8 minor op wd ws i8) = decodeI8 minor op i8 wd ws := by
  have hm' : minor < 64 := by omega
  have ht : op * 2 ^ 8 + i8 < 1024 := by omega
  have e1 : field (op * 2 ^ 8 + i8) 9 8 = op := by rw [field]; omega
  have e2 : field (op * 2 ^ 8 + i8) 7 0 = i8 := by rw [field]; omega
  rw [wordI8, decode_wordMsa wd ws hm' ht, decodeMinor_i8 (field_minor wd ws hm' ht) hm, regField_wd wd ws hm' ht,
    regField_ws wd ws hm' ht, field_top wd ws hm' ht 9 8 (by omega) (by omega),
    field_top wd ws hm' ht 7 0 (by omega) (by omega), e1, e2]

theorem decode_wordElm {op n : Nat} {df : Fmt} (wd ws : Fin 32) (ho : op < 16) (h : n < laneCount df) :
    decode (wordElm op df wd ws n) = decodeElm op df n wd ws := by
  have hc := dfnCode_lt h
  have ht : op * 2 ^ 6 + dfnCode df n < 1024 := by omega
  have e1 : field (op * 2 ^ 6 + dfnCode df n) 9 6 = op := by rw [field]; omega
  have e2 : field (op * 2 ^ 6 + dfnCode df n) 5 0 = dfnCode df n := by rw [field]; omega
  rw [wordElm, decode_wordMsa wd ws (by decide) ht, decodeMinor_elm (field_minor wd ws (by decide) ht), decodeElmWord,
      regField_wd wd ws (by decide) ht,
      regField_ws wd ws (by decide) ht, field_top wd ws (by decide) ht 9 6 (by omega) (by omega),
      field_top wd ws (by decide) ht 5 0 (by omega) (by omega), e1, e2, dfnOf_dfnCode h, if_neg (by omega)]

theorem decode_wordMove {op : Nat} (wd ws : Fin 32) (ho : op < 16) :
    decode (wordMove op wd ws) = decodeMove op wd ws := by
  obtain ⟨top, htop⟩ : ∃ top, op * 2 ^ 6 + 62 = top := ⟨_, rfl⟩
  have ht : top < 1024 := by omega
  have e1 : field (wordMsa 25 wd ws top).toNat 25 22 = op := by
    rw [field_top wd ws (by decide) ht 9 6 (by omega) (by omega), field]; omega
  have e2 : field (wordMsa 25 wd ws top).toNat 21 16 = 62 := by
    rw [field_top wd ws (by decide) ht 5 0 (by omega) (by omega), field]; omega
  rw [wordMove, htop, decode_wordMsa wd ws (by decide) ht, decodeMinor_elm (field_minor wd ws (by decide) ht),
    decodeElmWord, if_pos e2, e1, regField_wd wd ws (by decide) ht, regField_ws wd ws (by decide) ht]

theorem decode_wordVec {op : Nat} (wd ws wt : Fin 32) (ho : op < 24) :
    decode (wordVec op wd ws wt) = decodeVec op wd ws wt := by
  have hw := wt.isLt
  have ht : op * 2 ^ 5 + wt.val < 1024 := by omega
  have e1 : field (op * 2 ^ 5 + wt.val) 9 5 = op := by rw [field]; omega
  have e3 : regField (wordMsa 30 wd ws (op * 2 ^ 5 + wt.val)).toNat 16 = wt := by
    apply Fin.ext
    have := wd.isLt; have := ws.isLt
    simp only [regField, toNat_wordMsa wd ws (by decide : 30 < 64) ht]; omega
  rw [wordVec, decode_wordMsa wd ws (by decide) ht, decodeMinor_vec (field_minor wd ws (by decide) ht), decodeVecWord,
      regField_wd wd ws (by decide) ht,
      regField_ws wd ws (by decide) ht, field_top wd ws (by decide) ht 9 5 (by omega) (by omega),
      e1, e3, if_neg (by omega), if_neg (by omega)]

theorem decode_word2R {op : Nat} (df : Fmt) (wd ws : Fin 32) (ho : op < 8) :
    decode (word2R op df wd ws) = decode2R op df wd ws := by
  have hf := fmtCode_lt df
  have ht : 24 * 2 ^ 5 + op * 2 ^ 2 + fmtCode df < 1024 := by omega
  have e1 : field (24 * 2 ^ 5 + op * 2 ^ 2 + fmtCode df) 9 5 = 24 := by rw [field]; omega
  have e2 : field (24 * 2 ^ 5 + op * 2 ^ 2 + fmtCode df) 4 2 = op := by rw [field]; omega
  have e3 : field (24 * 2 ^ 5 + op * 2 ^ 2 + fmtCode df) 1 0 = fmtCode df := by rw [field]; omega
  rw [word2R, decode_wordMsa wd ws (by decide) ht, decodeMinor_vec (field_minor wd ws (by decide) ht), decodeVecWord,
      regField_wd wd ws (by decide) ht,
      regField_ws wd ws (by decide) ht, field_top wd ws (by decide) ht 9 5 (by omega) (by omega),
      field_top wd ws (by decide) ht 4 2 (by omega) (by omega),
      field_top wd ws (by decide) ht 1 0 (by omega) (by omega), e1, e2, e3, fmtOf_fmtCode, if_pos rfl]

theorem decode_word3RF {op : Nat} (f : FmtHw) (wd ws wt : Fin 32) (ho : op < 16) :
    decode (word3RF op f wd ws wt) = decode3RF op f wd ws wt := by
  have hw := wt.isLt
  obtain ⟨c, hc, hf⟩ : ∃ c, c < 2 ∧ word3RF op f wd ws wt = wordMsa 28 wd ws (op * 2 ^ 6 + c * 2 ^ 5 + wt.val)
      ∧ (if c = 0 then FmtHw.h else .w) = f := by
    cases f
    · exact ⟨0, by decide, rfl, rfl⟩
    · exact ⟨1, by decide, rfl, rfl⟩
  have ht : op * 2 ^ 6 + c * 2 ^ 5 + wt.val < 1024 := by omega
  have e1 : field (op * 2 ^ 6 + c * 2 ^ 5 + wt.val) 9 6 = op := by rw [field]; omega
  have e2 : field (op * 2 ^ 6 + c * 2 ^ 5 + wt.val) 5 5 = c := by rw [field]; omega
  have e3 : regField (wordMsa 28 wd ws (op * 2 ^ 6 + c * 2 ^ 5 + wt.val)).toNat 16 = wt := by
    apply Fin.ext
    have := wd.isLt; have := ws.isLt
    simp only [regField, toNat_wordMsa wd ws (by decide : 28 < 64) ht]; omega
  rw [hf.1, decode_wordMsa wd ws (by decide) ht, decodeMinor_3RF (field_minor wd ws (by decide) ht),
      regField_wd wd ws (by decide) ht,
      regField_ws wd ws (by decide) ht, field_top wd ws (by decide) ht 9 6 (by omega) (by omega),
      field_top wd ws (by decide) ht 5 5 (by omega) (by omega), e1, e2, e3, hf.2]

end Sys2Proof
end

