-- ==== Sys2Proof/Laws/Kernels.lean ====
section
/-! SUPPORT. What each kernel computes, in the form claims are stated in: ranges of the readings of a lane, values
that survive truncation, and results bit by bit. -/

namespace Sys2Proof.Machine

set_option Elab.async false

/-! ## Readings and truncation (00_scope R15) -/

theorem sext_bounds (df : Fmt) (a : Lane df) :
    -2 ^ (laneBits df - 1) ≤ sext a ∧ sext a < 2 ^ (laneBits df - 1) := ⟨BitVec.le_toInt a, BitVec.toInt_lt⟩

theorem zext_bounds {n : Nat} (x : BitVec n) : 0 ≤ zext x ∧ zext x < 2 ^ n :=
  ⟨Int.natCast_nonneg _, show ((x.toNat : Int)) < _ by exact_mod_cast x.isLt⟩

theorem sext_trunc (df : Fmt) {v : Int} (h1 : -2 ^ (laneBits df - 1) ≤ v) (h2 : v < 2 ^ (laneBits df - 1)) :
    sext (trunc df v) = v := BitVec.toInt_ofInt_eq_self (laneBits_pos df) h1 h2

theorem zext_trunc (df : Fmt) {v : Int} (h1 : 0 ≤ v) (h2 : v < 2 ^ laneBits df) : zext (trunc df v) = v := by
  simp only [zext, trunc, BitVec.toNat_ofInt]
  rw [Int.toNat_of_nonneg (Int.emod_nonneg _ (by positivity)), Int.emod_eq_of_lt h1 (by exact_mod_cast h2)]

theorem two_pow_laneBits (df : Fmt) : (2 : Int) ^ laneBits df = 2 * 2 ^ (laneBits df - 1) := by
  cases df <;> rfl

/-- The two readings of a lane agree modulo 2. -/
theorem sext_mod_two (df : Fmt) (a : Lane df) : sext a % 2 = a.toNat % 2 := by
  have h := BitVec.toInt_eq_toNat_cond a
  have := two_pow_laneBits df
  rw [sext, h]; split <;> push_cast <;> omega

theorem bitAt_and_zero {n : Nat} (a b : BitVec n) :
    bitAt (a &&& b) 0 = min (a.toNat % 2) (b.toNat % 2) := by
  simp only [bitAt, BitVec.getLsbD, Nat.testBit_zero]
  rcases Nat.mod_two_eq_zero_or_one a.toNat with h | h <;>
    rcases Nat.mod_two_eq_zero_or_one b.toNat with h' | h' <;> simp [h, h']

theorem bitAt_or_zero {n : Nat} (a b : BitVec n) :
    bitAt (a ||| b) 0 = max (a.toNat % 2) (b.toNat % 2) := by
  simp only [bitAt, BitVec.getLsbD, Nat.testBit_zero]
  rcases Nat.mod_two_eq_zero_or_one a.toNat with h | h <;>
    rcases Nat.mod_two_eq_zero_or_one b.toNat with h' | h' <;> simp [h, h']

/-! ## Masks (42 R211) -/

theorem getLsbD_trunc_mask (df : Fmt) (p : Bool) {j : Nat} (h : j < laneBits df) :
    (trunc df (mask p)).getLsbD j = p := by
  cases p
  · simp [mask, trunc]
  · have : trunc df (mask true) = BitVec.allOnes _ := by cases df <;> decide
    rw [this]; simp [h]

/-! ## Division (43 R246, R248) -/

theorem modS_eq_tmod (n : Nat) (a b : Int) :
    modS n a b = if a = minInt n ∧ b = -1 then 0 else if b = 0 then 0 else a.tmod b := by
  have := Int.tmod_add_mul_tdiv a b
  simp only [modS]; split_ifs <;> omega

/-! ## Bits (45 R280 to R297) -/

variable {df : Fmt}

theorem getLsbD_oneBit_of_lt {n k j : Nat} (h : j < n) : (oneBit n k).getLsbD j = decide (j = k) := by
  rw [getLsbD_oneBit]; simp [h]

theorem getLsbD_clearBit (a : Lane df) (p : Nat) {j : Nat} (h : j < laneBits df) :
    (clearBit a p).getLsbD j = if j = p then false else a.getLsbD j := by
  rw [clearBit, BitVec.getLsbD_and, BitVec.getLsbD_not, getLsbD_oneBit_of_lt h]
  by_cases hp : j = p <;> simp [hp, h]

theorem getLsbD_setBit (a : Lane df) (p : Nat) {j : Nat} (h : j < laneBits df) :
    (setBit a p).getLsbD j = if j = p then true else a.getLsbD j := by
  rw [setBit, BitVec.getLsbD_or, getLsbD_oneBit_of_lt h]
  by_cases hp : j = p <;> simp [hp]

theorem getLsbD_flipBit (a : Lane df) (p : Nat) {j : Nat} (h : j < laneBits df) :
    (flipBit a p).getLsbD j = if j = p then !a.getLsbD j else a.getLsbD j := by
  rw [flipBit, BitVec.getLsbD_xor, getLsbD_oneBit_of_lt h]
  by_cases hp : j = p <;> simp [hp]

theorem getLsbD_lowBits {n k j : Nat} (h : j < n) : (lowBits n k).getLsbD j = decide (j < k) := by
  rw [lowBits, BitVec.getLsbD_ofNat, Nat.testBit_two_pow_sub_one]; simp [h]

theorem getLsbD_insL (a d : Lane df) {k j : Nat} (h : j < laneBits df) :
    (insL a d k).getLsbD j = if laneBits df - k ≤ j then a.getLsbD j else d.getLsbD j := by
  rw [insL]; split
  · rw [if_pos (by omega)]
  · simp only [BitVec.getLsbD_or, BitVec.getLsbD_and, BitVec.getLsbD_not, getLsbD_lowBits h, h]
    by_cases hj : laneBits df - k ≤ j
    · simp [hj, Nat.not_lt.mpr hj]
    · simp [hj, Nat.not_le.mp hj]

theorem getLsbD_insR (a d : Lane df) {k j : Nat} (h : j < laneBits df) :
    (insR a d k).getLsbD j = if j < k then a.getLsbD j else d.getLsbD j := by
  rw [insR]; split
  · rw [if_pos (by omega)]
  · simp only [BitVec.getLsbD_or, BitVec.getLsbD_and, BitVec.getLsbD_not, getLsbD_lowBits h, h]
    by_cases hj : j < k <;> simp [hj]

/-- The count of leading zeros is the largest `z` whose top `z` bits are all 0. -/
theorem leadingZerosBelow_spec {n : Nat} (x : BitVec n) : ∀ k,
    leadingZerosBelow x k ≤ k ∧ (∀ j, k - leadingZerosBelow x k ≤ j → j < k → x.getLsbD j = false) ∧
      (leadingZerosBelow x k < k → x.getLsbD (k - 1 - leadingZerosBelow x k) = true) := by
  intro k
  induction k with
  | zero => simp [leadingZerosBelow]
  | succ k ih =>
    obtain ⟨h1, h2, h3⟩ := ih
    rw [leadingZerosBelow]; split
    · rename_i h
      exact ⟨by omega, fun j _ _ => by omega, fun _ => by simpa using h⟩
    · rename_i h
      refine ⟨by omega, fun j _ _ => ?_, fun _ => ?_⟩
      · rcases Nat.lt_or_ge j k with hj | hj
        · exact h2 j (by omega) hj
        · rw [show j = k by omega]; simpa using h
      · rw [show k + 1 - 1 - (leadingZerosBelow x k + 1) = k - 1 - leadingZerosBelow x k by omega]
        exact h3 (by omega)

end Sys2Proof.Machine
end

