-- ==== Sys2Proof/Laws/Operations.lean ====
section
/-! SUPPORT. For each operation of the opcode table: the word of its row decodes to it, and `exec` of it is the
shared meaning of its formats. -/

namespace Sys2Proof.Machine

set_option Elab.async false

/-! ## Element -/

theorem decode_copyS (df : Fmt) (rd : Gpr) (ws : Reg) (n : Nat) (h : n < laneCount df) :
    decode (wordElm 2 df rd ws n) = .ok (Instr.copyS df rd ws n) :=
  (decode_wordElm (op := 2) _ _ (by decide) h).trans (by cases df <;> rfl)

theorem exec_copyS (df : Fmt) (rd : Gpr) (ws : Reg) (n : Nat) (s : State) (hg : df = .d → s.params.gprLen = .w64) :
    exec (Instr.copyS df rd ws n) s = opCopyS df rd ws n s := by
  cases df
  · rfl
  · rfl
  · rfl
  · have hg' := hg rfl
    simp only [Instr.copyS, exec, execCopySD, requireGprLen64, hg']

theorem decode_copyU (f : FmtBhw) (rd : Gpr) (ws : Reg) (n : Nat) (h : n < laneCount f.fmt) :
    decode (wordElm 3 f.fmt rd ws n) = .ok (Instr.copyU f rd ws n) :=
  (decode_wordElm (op := 3) _ _ (by decide) h).trans (by cases f <;> rfl)

theorem exec_copyU (f : FmtBhw) (rd : Gpr) (ws : Reg) (n : Nat) (s : State) (hg : f = .w → s.params.gprLen = .w64) :
    exec (Instr.copyU f rd ws n) s = opCopyU f.fmt rd ws n s := by
  cases f
  · rfl
  · rfl
  · have hg' := hg rfl
    simp only [Instr.copyU, exec, execCopyUW, requireGprLen64, hg']; rfl

theorem decode_insert (df : Fmt) (wd : Reg) (rs : Gpr) (n : Nat) (h : n < laneCount df) :
    decode (wordElm 4 df wd rs n) = .ok (Instr.insert df wd rs n) :=
  (decode_wordElm (op := 4) _ _ (by decide) h).trans (by cases df <;> rfl)

theorem exec_insert (df : Fmt) (wd : Reg) (rs : Gpr) (n : Nat) (s : State) (hg : df = .d → s.params.gprLen = .w64) :
    exec (Instr.insert df wd rs n) s = opInsert df wd rs n s := by
  cases df
  · rfl
  · rfl
  · rfl
  · have hg' := hg rfl
    simp only [Instr.insert, exec, execInsertD, requireGprLen64, hg']

theorem decode_insve (df : Fmt) (wd ws : Reg) (n : Nat) (h : n < laneCount df) :
    decode (wordElm 5 df wd ws n) = .ok (Instr.insve df wd ws n) :=
  (decode_wordElm (op := 5) _ _ (by decide) h).trans (by cases df <;> rfl)

theorem exec_insve (df : Fmt) (wd ws : Reg) (n : Nat) (s : State) :
    exec (Instr.insve df wd ws n) s = opInsve df wd ws n s := by cases df <;> rfl

theorem decode_fill (df : Fmt) (wd : Reg) (rs : Gpr) :
    decode (word2R 0 df wd rs) = .ok (Instr.fill df wd rs) :=
  decode_word2R (op := 0) df _ _ (by decide)

theorem exec_fill (df : Fmt) (wd : Reg) (rs : Gpr) (s : State) (hg : df = .d → s.params.gprLen = .w64) :
    exec (Instr.fill df wd rs) s = opFill df wd rs s := by
  cases df
  · rfl
  · rfl
  · rfl
  · have hg' := hg rfl
    simp only [Instr.fill, exec, execFillD, requireGprLen64, hg']

theorem decode_move (wd ws : Reg) :
    decode (wordMove 2 wd ws) = .ok (Instr.moveV wd ws) :=
  decode_wordMove (op := 2) wd ws (by decide)

theorem exec_move (wd ws : Reg) (s : State) :
    exec (Instr.moveV wd ws) s = opMove wd ws s := rfl

/-! ## AddSub -/

theorem decode_addv (df : Fmt) (wd ws wt : Reg) :
    decode (word3R 14 0 df wd ws wt) = .ok (Instr.addv df wd ws wt) :=
  (decode_word3R (minor := 14) (op := 0) _ _ _ _ (by decide) (by decide)).trans (by cases df <;> rfl)

theorem exec_addv (df : Fmt) (wd ws wt : Reg) (s : State) :
    exec (Instr.addv df wd ws wt) s = opAddv df wd ws wt s := by cases df <;> rfl

theorem decode_addvi (df : Fmt) (wd ws : Reg) (u5 : Nat) (h : u5 ≤ 31) :
    decode (wordI5 6 0 df wd ws u5) = .ok (Instr.addvi df wd ws u5) :=
  decode_wordI5 (minor := 6) (op := 0) df wd ws (by decide) (by decide) (Nat.lt_succ_of_le h)

theorem exec_addvi (df : Fmt) (wd ws : Reg) (u5 : Nat) (s : State) :
    exec (Instr.addvi df wd ws u5) s = opAddvi df wd ws u5 s := by cases df <;> rfl

theorem decode_subv (df : Fmt) (wd ws wt : Reg) :
    decode (word3R 14 1 df wd ws wt) = .ok (Instr.subv df wd ws wt) :=
  (decode_word3R (minor := 14) (op := 1) _ _ _ _ (by decide) (by decide)).trans (by cases df <;> rfl)

theorem exec_subv (df : Fmt) (wd ws wt : Reg) (s : State) :
    exec (Instr.subv df wd ws wt) s = opSubv df wd ws wt s := by cases df <;> rfl

theorem decode_subvi (df : Fmt) (wd ws : Reg) (u5 : Nat) (h : u5 ≤ 31) :
    decode (wordI5 6 1 df wd ws u5) = .ok (Instr.subvi df wd ws u5) :=
  decode_wordI5 (minor := 6) (op := 1) df wd ws (by decide) (by decide) (Nat.lt_succ_of_le h)

theorem exec_subvi (df : Fmt) (wd ws : Reg) (u5 : Nat) (s : State) :
    exec (Instr.subvi df wd ws u5) s = opSubvi df wd ws u5 s := by cases df <;> rfl

theorem decode_addsS (df : Fmt) (wd ws wt : Reg) :
    decode (word3R 16 2 df wd ws wt) = .ok (Instr.addsS df wd ws wt) :=
  (decode_word3R (minor := 16) (op := 2) _ _ _ _ (by decide) (by decide)).trans (by cases df <;> rfl)

theorem exec_addsS (df : Fmt) (wd ws wt : Reg) (s : State) :
    exec (Instr.addsS df wd ws wt) s = opAddsS df wd ws wt s := by cases df <;> rfl

theorem decode_addsU (df : Fmt) (wd ws wt : Reg) :
    decode (word3R 16 3 df wd ws wt) = .ok (Instr.addsU df wd ws wt) :=
  (decode_word3R (minor := 16) (op := 3) _ _ _ _ (by decide) (by decide)).trans (by cases df <;> rfl)

theorem exec_addsU (df : Fmt) (wd ws wt : Reg) (s : State) :
    exec (Instr.addsU df wd ws wt) s = opAddsU df wd ws wt s := by cases df <;> rfl

theorem decode_subsS (df : Fmt) (wd ws wt : Reg) :
    decode (word3R 17 0 df wd ws wt) = .ok (Instr.subsS df wd ws wt) :=
  (decode_word3R (minor := 17) (op := 0) _ _ _ _ (by decide) (by decide)).trans (by cases df <;> rfl)

theorem exec_subsS (df : Fmt) (wd ws wt : Reg) (s : State) :
    exec (Instr.subsS df wd ws wt) s = opSubsS df wd ws wt s := by cases df <;> rfl

theorem decode_subsU (df : Fmt) (wd ws wt : Reg) :
    decode (word3R 17 1 df wd ws wt) = .ok (Instr.subsU df wd ws wt) :=
  (decode_word3R (minor := 17) (op := 1) _ _ _ _ (by decide) (by decide)).trans (by cases df <;> rfl)

theorem exec_subsU (df : Fmt) (wd ws wt : Reg) (s : State) :
    exec (Instr.subsU df wd ws wt) s = opSubsU df wd ws wt s := by cases df <;> rfl

theorem decode_subsusU (df : Fmt) (wd ws wt : Reg) :
    decode (word3R 17 2 df wd ws wt) = .ok (Instr.subsusU df wd ws wt) :=
  (decode_word3R (minor := 17) (op := 2) _ _ _ _ (by decide) (by decide)).trans (by cases df <;> rfl)

theorem exec_subsusU (df : Fmt) (wd ws wt : Reg) (s : State) :
    exec (Instr.subsusU df wd ws wt) s = opSubsusU df wd ws wt s := by cases df <;> rfl

theorem decode_subsuuS (df : Fmt) (wd ws wt : Reg) :
    decode (word3R 17 3 df wd ws wt) = .ok (Instr.subsuuS df wd ws wt) :=
  (decode_word3R (minor := 17) (op := 3) _ _ _ _ (by decide) (by decide)).trans (by cases df <;> rfl)

theorem exec_subsuuS (df : Fmt) (wd ws wt : Reg) (s : State) :
    exec (Instr.subsuuS df wd ws wt) s = opSubsuuS df wd ws wt s := by cases df <;> rfl

theorem decode_asubS (df : Fmt) (wd ws wt : Reg) :
    decode (word3R 17 4 df wd ws wt) = .ok (Instr.asubS df wd ws wt) :=
  (decode_word3R (minor := 17) (op := 4) _ _ _ _ (by decide) (by decide)).trans (by cases df <;> rfl)

theorem exec_asubS (df : Fmt) (wd ws wt : Reg) (s : State) :
    exec (Instr.asubS df wd ws wt) s = opAsubS df wd ws wt s := by cases df <;> rfl

theorem decode_asubU (df : Fmt) (wd ws wt : Reg) :
    decode (word3R 17 5 df wd ws wt) = .ok (Instr.asubU df wd ws wt) :=
  (decode_word3R (minor := 17) (op := 5) _ _ _ _ (by decide) (by decide)).trans (by cases df <;> rfl)

theorem exec_asubU (df : Fmt) (wd ws wt : Reg) (s : State) :
    exec (Instr.asubU df wd ws wt) s = opAsubU df wd ws wt s := by cases df <;> rfl

theorem decode_addA (df : Fmt) (wd ws wt : Reg) :
    decode (word3R 16 0 df wd ws wt) = .ok (Instr.addA df wd ws wt) :=
  (decode_word3R (minor := 16) (op := 0) _ _ _ _ (by decide) (by decide)).trans (by cases df <;> rfl)

theorem exec_addA (df : Fmt) (wd ws wt : Reg) (s : State) :
    exec (Instr.addA df wd ws wt) s = opAddA df wd ws wt s := by cases df <;> rfl

theorem decode_addsA (df : Fmt) (wd ws wt : Reg) :
    decode (word3R 16 1 df wd ws wt) = .ok (Instr.addsA df wd ws wt) :=
  (decode_word3R (minor := 16) (op := 1) _ _ _ _ (by decide) (by decide)).trans (by cases df <;> rfl)

theorem exec_addsA (df : Fmt) (wd ws wt : Reg) (s : State) :
    exec (Instr.addsA df wd ws wt) s = opAddsA df wd ws wt s := by cases df <;> rfl

theorem decode_aveS (df : Fmt) (wd ws wt : Reg) :
    decode (word3R 16 4 df wd ws wt) = .ok (Instr.aveS df wd ws wt) :=
  (decode_word3R (minor := 16) (op := 4) _ _ _ _ (by decide) (by decide)).trans (by cases df <;> rfl)

theorem exec_aveS (df : Fmt) (wd ws wt : Reg) (s : State) :
    exec (Instr.aveS df wd ws wt) s = opAveS df wd ws wt s := by cases df <;> rfl

theorem decode_aveU (df : Fmt) (wd ws wt : Reg) :
    decode (word3R 16 5 df wd ws wt) = .ok (Instr.aveU df wd ws wt) :=
  (decode_word3R (minor := 16) (op := 5) _ _ _ _ (by decide) (by decide)).trans (by cases df <;> rfl)

theorem exec_aveU (df : Fmt) (wd ws wt : Reg) (s : State) :
    exec (Instr.aveU df wd ws wt) s = opAveU df wd ws wt s := by cases df <;> rfl

theorem decode_averS (df : Fmt) (wd ws wt : Reg) :
    decode (word3R 16 6 df wd ws wt) = .ok (Instr.averS df wd ws wt) :=
  (decode_word3R (minor := 16) (op := 6) _ _ _ _ (by decide) (by decide)).trans (by cases df <;> rfl)

theorem exec_averS (df : Fmt) (wd ws wt : Reg) (s : State) :
    exec (Instr.averS df wd ws wt) s = opAverS df wd ws wt s := by cases df <;> rfl

theorem decode_averU (df : Fmt) (wd ws wt : Reg) :
    decode (word3R 16 7 df wd ws wt) = .ok (Instr.averU df wd ws wt) :=
  (decode_word3R (minor := 16) (op := 7) _ _ _ _ (by decide) (by decide)).trans (by cases df <;> rfl)

theorem exec_averU (df : Fmt) (wd ws wt : Reg) (s : State) :
    exec (Instr.averU df wd ws wt) s = opAverU df wd ws wt s := by cases df <;> rfl

/-! ## MinMax -/

theorem decode_maxA (df : Fmt) (wd ws wt : Reg) :
    decode (word3R 14 6 df wd ws wt) = .ok (Instr.maxA df wd ws wt) :=
  (decode_word3R (minor := 14) (op := 6) _ _ _ _ (by decide) (by decide)).trans (by cases df <;> rfl)

theorem exec_maxA (df : Fmt) (wd ws wt : Reg) (s : State) :
    exec (Instr.maxA df wd ws wt) s = opMaxA df wd ws wt s := by cases df <;> rfl

theorem decode_minA (df : Fmt) (wd ws wt : Reg) :
    decode (word3R 14 7 df wd ws wt) = .ok (Instr.minA df wd ws wt) :=
  (decode_word3R (minor := 14) (op := 7) _ _ _ _ (by decide) (by decide)).trans (by cases df <;> rfl)

theorem exec_minA (df : Fmt) (wd ws wt : Reg) (s : State) :
    exec (Instr.minA df wd ws wt) s = opMinA df wd ws wt s := by cases df <;> rfl

theorem decode_maxS (df : Fmt) (wd ws wt : Reg) :
    decode (word3R 14 2 df wd ws wt) = .ok (Instr.maxS df wd ws wt) :=
  (decode_word3R (minor := 14) (op := 2) _ _ _ _ (by decide) (by decide)).trans (by cases df <;> rfl)

theorem exec_maxS (df : Fmt) (wd ws wt : Reg) (s : State) :
    exec (Instr.maxS df wd ws wt) s = opMaxS df wd ws wt s := by cases df <;> rfl

theorem decode_maxU (df : Fmt) (wd ws wt : Reg) :
    decode (word3R 14 3 df wd ws wt) = .ok (Instr.maxU df wd ws wt) :=
  (decode_word3R (minor := 14) (op := 3) _ _ _ _ (by decide) (by decide)).trans (by cases df <;> rfl)

theorem exec_maxU (df : Fmt) (wd ws wt : Reg) (s : State) :
    exec (Instr.maxU df wd ws wt) s = opMaxU df wd ws wt s := by cases df <;> rfl

theorem decode_minS (df : Fmt) (wd ws wt : Reg) :
    decode (word3R 14 4 df wd ws wt) = .ok (Instr.minS df wd ws wt) :=
  (decode_word3R (minor := 14) (op := 4) _ _ _ _ (by decide) (by decide)).trans (by cases df <;> rfl)

theorem exec_minS (df : Fmt) (wd ws wt : Reg) (s : State) :
    exec (Instr.minS df wd ws wt) s = opMinS df wd ws wt s := by cases df <;> rfl

theorem decode_minU (df : Fmt) (wd ws wt : Reg) :
    decode (word3R 14 5 df wd ws wt) = .ok (Instr.minU df wd ws wt) :=
  (decode_word3R (minor := 14) (op := 5) _ _ _ _ (by decide) (by decide)).trans (by cases df <;> rfl)

theorem exec_minU (df : Fmt) (wd ws wt : Reg) (s : State) :
    exec (Instr.minU df wd ws wt) s = opMinU df wd ws wt s := by cases df <;> rfl

theorem decode_maxiS (df : Fmt) (wd ws : Reg) (s5 : Int) (h1 : -16 ≤ s5) (h2 : s5 ≤ 15) :
    decode (wordI5 6 2 df wd ws (unsigned 5 s5)) = .ok (Instr.maxiS df wd ws s5) :=
  ((decode_wordI5 (minor := 6) (op := 2) df wd ws (by decide) (by decide) (unsigned_lt 5 s5)).trans rfl).trans
    (congrArg (fun v => Except.ok (Instr.maxiS df wd ws v)) (signed_unsigned5 h1 h2))

theorem exec_maxiS (df : Fmt) (wd ws : Reg) (s5 : Int) (s : State) :
    exec (Instr.maxiS df wd ws s5) s = opMaxiS df wd ws s5 s := by cases df <;> rfl

theorem decode_maxiU (df : Fmt) (wd ws : Reg) (u5 : Nat) (h : u5 ≤ 31) :
    decode (wordI5 6 3 df wd ws u5) = .ok (Instr.maxiU df wd ws u5) :=
  decode_wordI5 (minor := 6) (op := 3) df wd ws (by decide) (by decide) (Nat.lt_succ_of_le h)

theorem exec_maxiU (df : Fmt) (wd ws : Reg) (u5 : Nat) (s : State) :
    exec (Instr.maxiU df wd ws u5) s = opMaxiU df wd ws u5 s := by cases df <;> rfl

theorem decode_miniS (df : Fmt) (wd ws : Reg) (s5 : Int) (h1 : -16 ≤ s5) (h2 : s5 ≤ 15) :
    decode (wordI5 6 4 df wd ws (unsigned 5 s5)) = .ok (Instr.miniS df wd ws s5) :=
  ((decode_wordI5 (minor := 6) (op := 4) df wd ws (by decide) (by decide) (unsigned_lt 5 s5)).trans rfl).trans
    (congrArg (fun v => Except.ok (Instr.miniS df wd ws v)) (signed_unsigned5 h1 h2))

theorem exec_miniS (df : Fmt) (wd ws : Reg) (s5 : Int) (s : State) :
    exec (Instr.miniS df wd ws s5) s = opMiniS df wd ws s5 s := by cases df <;> rfl

theorem decode_miniU (df : Fmt) (wd ws : Reg) (u5 : Nat) (h : u5 ≤ 31) :
    decode (wordI5 6 5 df wd ws u5) = .ok (Instr.miniU df wd ws u5) :=
  decode_wordI5 (minor := 6) (op := 5) df wd ws (by decide) (by decide) (Nat.lt_succ_of_le h)

theorem exec_miniU (df : Fmt) (wd ws : Reg) (u5 : Nat) (s : State) :
    exec (Instr.miniU df wd ws u5) s = opMiniU df wd ws u5 s := by cases df <;> rfl

theorem decode_ceq (df : Fmt) (wd ws wt : Reg) :
    decode (word3R 15 0 df wd ws wt) = .ok (Instr.ceq df wd ws wt) :=
  (decode_word3R (minor := 15) (op := 0) _ _ _ _ (by decide) (by decide)).trans (by cases df <;> rfl)

theorem exec_ceq (df : Fmt) (wd ws wt : Reg) (s : State) :
    exec (Instr.ceq df wd ws wt) s = opCeq df wd ws wt s := by cases df <;> rfl

theorem decode_ceqi (df : Fmt) (wd ws : Reg) (s5 : Int) (h1 : -16 ≤ s5) (h2 : s5 ≤ 15) :
    decode (wordI5 7 0 df wd ws (unsigned 5 s5)) = .ok (Instr.ceqi df wd ws s5) :=
  ((decode_wordI5 (minor := 7) (op := 0) df wd ws (by decide) (by decide) (unsigned_lt 5 s5)).trans rfl).trans
    (congrArg (fun v => Except.ok (Instr.ceqi df wd ws v)) (signed_unsigned5 h1 h2))

theorem exec_ceqi (df : Fmt) (wd ws : Reg) (s5 : Int) (s : State) :
    exec (Instr.ceqi df wd ws s5) s = opCeqi df wd ws s5 s := by cases df <;> rfl

theorem decode_cltS (df : Fmt) (wd ws wt : Reg) :
    decode (word3R 15 2 df wd ws wt) = .ok (Instr.cltS df wd ws wt) :=
  (decode_word3R (minor := 15) (op := 2) _ _ _ _ (by decide) (by decide)).trans (by cases df <;> rfl)

theorem exec_cltS (df : Fmt) (wd ws wt : Reg) (s : State) :
    exec (Instr.cltS df wd ws wt) s = opCltS df wd ws wt s := by cases df <;> rfl

theorem decode_cltU (df : Fmt) (wd ws wt : Reg) :
    decode (word3R 15 3 df wd ws wt) = .ok (Instr.cltU df wd ws wt) :=
  (decode_word3R (minor := 15) (op := 3) _ _ _ _ (by decide) (by decide)).trans (by cases df <;> rfl)

theorem exec_cltU (df : Fmt) (wd ws wt : Reg) (s : State) :
    exec (Instr.cltU df wd ws wt) s = opCltU df wd ws wt s := by cases df <;> rfl

theorem decode_cltiS (df : Fmt) (wd ws : Reg) (s5 : Int) (h1 : -16 ≤ s5) (h2 : s5 ≤ 15) :
    decode (wordI5 7 2 df wd ws (unsigned 5 s5)) = .ok (Instr.cltiS df wd ws s5) :=
  ((decode_wordI5 (minor := 7) (op := 2) df wd ws (by decide) (by decide) (unsigned_lt 5 s5)).trans rfl).trans
    (congrArg (fun v => Except.ok (Instr.cltiS df wd ws v)) (signed_unsigned5 h1 h2))

theorem exec_cltiS (df : Fmt) (wd ws : Reg) (s5 : Int) (s : State) :
    exec (Instr.cltiS df wd ws s5) s = opCltiS df wd ws s5 s := by cases df <;> rfl

theorem decode_cltiU (df : Fmt) (wd ws : Reg) (u5 : Nat) (h : u5 ≤ 31) :
    decode (wordI5 7 3 df wd ws u5) = .ok (Instr.cltiU df wd ws u5) :=
  decode_wordI5 (minor := 7) (op := 3) df wd ws (by decide) (by decide) (Nat.lt_succ_of_le h)

theorem exec_cltiU (df : Fmt) (wd ws : Reg) (u5 : Nat) (s : State) :
    exec (Instr.cltiU df wd ws u5) s = opCltiU df wd ws u5 s := by cases df <;> rfl

theorem decode_cleS (df : Fmt) (wd ws wt : Reg) :
    decode (word3R 15 4 df wd ws wt) = .ok (Instr.cleS df wd ws wt) :=
  (decode_word3R (minor := 15) (op := 4) _ _ _ _ (by decide) (by decide)).trans (by cases df <;> rfl)

theorem exec_cleS (df : Fmt) (wd ws wt : Reg) (s : State) :
    exec (Instr.cleS df wd ws wt) s = opCleS df wd ws wt s := by cases df <;> rfl

theorem decode_cleU (df : Fmt) (wd ws wt : Reg) :
    decode (word3R 15 5 df wd ws wt) = .ok (Instr.cleU df wd ws wt) :=
  (decode_word3R (minor := 15) (op := 5) _ _ _ _ (by decide) (by decide)).trans (by cases df <;> rfl)

theorem exec_cleU (df : Fmt) (wd ws wt : Reg) (s : State) :
    exec (Instr.cleU df wd ws wt) s = opCleU df wd ws wt s := by cases df <;> rfl

theorem decode_cleiS (df : Fmt) (wd ws : Reg) (s5 : Int) (h1 : -16 ≤ s5) (h2 : s5 ≤ 15) :
    decode (wordI5 7 4 df wd ws (unsigned 5 s5)) = .ok (Instr.cleiS df wd ws s5) :=
  ((decode_wordI5 (minor := 7) (op := 4) df wd ws (by decide) (by decide) (unsigned_lt 5 s5)).trans rfl).trans
    (congrArg (fun v => Except.ok (Instr.cleiS df wd ws v)) (signed_unsigned5 h1 h2))

theorem exec_cleiS (df : Fmt) (wd ws : Reg) (s5 : Int) (s : State) :
    exec (Instr.cleiS df wd ws s5) s = opCleiS df wd ws s5 s := by cases df <;> rfl

theorem decode_cleiU (df : Fmt) (wd ws : Reg) (u5 : Nat) (h : u5 ≤ 31) :
    decode (wordI5 7 5 df wd ws u5) = .ok (Instr.cleiU df wd ws u5) :=
  decode_wordI5 (minor := 7) (op := 5) df wd ws (by decide) (by decide) (Nat.lt_succ_of_le h)

theorem exec_cleiU (df : Fmt) (wd ws : Reg) (u5 : Nat) (s : State) :
    exec (Instr.cleiU df wd ws u5) s = opCleiU df wd ws u5 s := by cases df <;> rfl

/-! ## MulDiv -/

theorem decode_haddS (f : FmtHwd) (wd ws wt : Reg) :
    decode (word3R 21 4 f.fmt wd ws wt) = .ok (Instr.haddS f wd ws wt) :=
  (decode_word3R (minor := 21) (op := 4) _ _ _ _ (by decide) (by decide)).trans (by cases f <;> rfl)

theorem exec_haddS (f : FmtHwd) (wd ws wt : Reg) (s : State) :
    exec (Instr.haddS f wd ws wt) s = opHaddS f.fmt wd ws wt s := by cases f <;> rfl

theorem decode_haddU (f : FmtHwd) (wd ws wt : Reg) :
    decode (word3R 21 5 f.fmt wd ws wt) = .ok (Instr.haddU f wd ws wt) :=
  (decode_word3R (minor := 21) (op := 5) _ _ _ _ (by decide) (by decide)).trans (by cases f <;> rfl)

theorem exec_haddU (f : FmtHwd) (wd ws wt : Reg) (s : State) :
    exec (Instr.haddU f wd ws wt) s = opHaddU f.fmt wd ws wt s := by cases f <;> rfl

theorem decode_hsubS (f : FmtHwd) (wd ws wt : Reg) :
    decode (word3R 21 6 f.fmt wd ws wt) = .ok (Instr.hsubS f wd ws wt) :=
  (decode_word3R (minor := 21) (op := 6) _ _ _ _ (by decide) (by decide)).trans (by cases f <;> rfl)

theorem exec_hsubS (f : FmtHwd) (wd ws wt : Reg) (s : State) :
    exec (Instr.hsubS f wd ws wt) s = opHsubS f.fmt wd ws wt s := by cases f <;> rfl

theorem decode_hsubU (f : FmtHwd) (wd ws wt : Reg) :
    decode (word3R 21 7 f.fmt wd ws wt) = .ok (Instr.hsubU f wd ws wt) :=
  (decode_word3R (minor := 21) (op := 7) _ _ _ _ (by decide) (by decide)).trans (by cases f <;> rfl)

theorem exec_hsubU (f : FmtHwd) (wd ws wt : Reg) (s : State) :
    exec (Instr.hsubU f wd ws wt) s = opHsubU f.fmt wd ws wt s := by cases f <;> rfl

theorem decode_dotpS (f : FmtHwd) (wd ws wt : Reg) :
    decode (word3R 19 0 f.fmt wd ws wt) = .ok (Instr.dotpS f wd ws wt) :=
  (decode_word3R (minor := 19) (op := 0) _ _ _ _ (by decide) (by decide)).trans (by cases f <;> rfl)

theorem exec_dotpS (f : FmtHwd) (wd ws wt : Reg) (s : State) :
    exec (Instr.dotpS f wd ws wt) s = opDotpS f.fmt wd ws wt s := by cases f <;> rfl

theorem decode_dotpU (f : FmtHwd) (wd ws wt : Reg) :
    decode (word3R 19 1 f.fmt wd ws wt) = .ok (Instr.dotpU f wd ws wt) :=
  (decode_word3R (minor := 19) (op := 1) _ _ _ _ (by decide) (by decide)).trans (by cases f <;> rfl)

theorem exec_dotpU (f : FmtHwd) (wd ws wt : Reg) (s : State) :
    exec (Instr.dotpU f wd ws wt) s = opDotpU f.fmt wd ws wt s := by cases f <;> rfl

theorem decode_dpaddS (f : FmtHwd) (wd ws wt : Reg) :
    decode (word3R 19 2 f.fmt wd ws wt) = .ok (Instr.dpaddS f wd ws wt) :=
  (decode_word3R (minor := 19) (op := 2) _ _ _ _ (by decide) (by decide)).trans (by cases f <;> rfl)

theorem exec_dpaddS (f : FmtHwd) (wd ws wt : Reg) (s : State) :
    exec (Instr.dpaddS f wd ws wt) s = opDpaddS f.fmt wd ws wt s := by cases f <;> rfl

theorem decode_dpaddU (f : FmtHwd) (wd ws wt : Reg) :
    decode (word3R 19 3 f.fmt wd ws wt) = .ok (Instr.dpaddU f wd ws wt) :=
  (decode_word3R (minor := 19) (op := 3) _ _ _ _ (by decide) (by decide)).trans (by cases f <;> rfl)

theorem exec_dpaddU (f : FmtHwd) (wd ws wt : Reg) (s : State) :
    exec (Instr.dpaddU f wd ws wt) s = opDpaddU f.fmt wd ws wt s := by cases f <;> rfl

theorem decode_dpsubS (f : FmtHwd) (wd ws wt : Reg) :
    decode (word3R 19 4 f.fmt wd ws wt) = .ok (Instr.dpsubS f wd ws wt) :=
  (decode_word3R (minor := 19) (op := 4) _ _ _ _ (by decide) (by decide)).trans (by cases f <;> rfl)

theorem exec_dpsubS (f : FmtHwd) (wd ws wt : Reg) (s : State) :
    exec (Instr.dpsubS f wd ws wt) s = opDpsubS f.fmt wd ws wt s := by cases f <;> rfl

theorem decode_dpsubU (f : FmtHwd) (wd ws wt : Reg) :
    decode (word3R 19 5 f.fmt wd ws wt) = .ok (Instr.dpsubU f wd ws wt) :=
  (decode_word3R (minor := 19) (op := 5) _ _ _ _ (by decide) (by decide)).trans (by cases f <;> rfl)

theorem exec_dpsubU (f : FmtHwd) (wd ws wt : Reg) (s : State) :
    exec (Instr.dpsubU f wd ws wt) s = opDpsubU f.fmt wd ws wt s := by cases f <;> rfl

theorem decode_mulv (df : Fmt) (wd ws wt : Reg) :
    decode (word3R 18 0 df wd ws wt) = .ok (Instr.mulv df wd ws wt) :=
  (decode_word3R (minor := 18) (op := 0) _ _ _ _ (by decide) (by decide)).trans (by cases df <;> rfl)

theorem exec_mulv (df : Fmt) (wd ws wt : Reg) (s : State) :
    exec (Instr.mulv df wd ws wt) s = opMulv df wd ws wt s := by cases df <;> rfl

theorem decode_maddv (df : Fmt) (wd ws wt : Reg) :
    decode (word3R 18 1 df wd ws wt) = .ok (Instr.maddv df wd ws wt) :=
  (decode_word3R (minor := 18) (op := 1) _ _ _ _ (by decide) (by decide)).trans (by cases df <;> rfl)

theorem exec_maddv (df : Fmt) (wd ws wt : Reg) (s : State) :
    exec (Instr.maddv df wd ws wt) s = opMaddv df wd ws wt s := by cases df <;> rfl

theorem decode_msubv (df : Fmt) (wd ws wt : Reg) :
    decode (word3R 18 2 df wd ws wt) = .ok (Instr.msubv df wd ws wt) :=
  (decode_word3R (minor := 18) (op := 2) _ _ _ _ (by decide) (by decide)).trans (by cases df <;> rfl)

theorem exec_msubv (df : Fmt) (wd ws wt : Reg) (s : State) :
    exec (Instr.msubv df wd ws wt) s = opMsubv df wd ws wt s := by cases df <;> rfl

theorem decode_divS (df : Fmt) (wd ws wt : Reg) :
    decode (word3R 18 4 df wd ws wt) = .ok (Instr.divS df wd ws wt) :=
  (decode_word3R (minor := 18) (op := 4) _ _ _ _ (by decide) (by decide)).trans (by cases df <;> rfl)

theorem exec_divS (df : Fmt) (wd ws wt : Reg) (s : State) :
    exec (Instr.divS df wd ws wt) s = opDivS df wd ws wt s := by cases df <;> rfl

theorem decode_divU (df : Fmt) (wd ws wt : Reg) :
    decode (word3R 18 5 df wd ws wt) = .ok (Instr.divU df wd ws wt) :=
  (decode_word3R (minor := 18) (op := 5) _ _ _ _ (by decide) (by decide)).trans (by cases df <;> rfl)

theorem exec_divU (df : Fmt) (wd ws wt : Reg) (s : State) :
    exec (Instr.divU df wd ws wt) s = opDivU df wd ws wt s := by cases df <;> rfl

theorem decode_modS (df : Fmt) (wd ws wt : Reg) :
    decode (word3R 18 6 df wd ws wt) = .ok (Instr.modS df wd ws wt) :=
  (decode_word3R (minor := 18) (op := 6) _ _ _ _ (by decide) (by decide)).trans (by cases df <;> rfl)

theorem exec_modS (df : Fmt) (wd ws wt : Reg) (s : State) :
    exec (Instr.modS df wd ws wt) s = opModS df wd ws wt s := by cases df <;> rfl

theorem decode_modU (df : Fmt) (wd ws wt : Reg) :
    decode (word3R 18 7 df wd ws wt) = .ok (Instr.modU df wd ws wt) :=
  (decode_word3R (minor := 18) (op := 7) _ _ _ _ (by decide) (by decide)).trans (by cases df <;> rfl)

theorem exec_modU (df : Fmt) (wd ws wt : Reg) (s : State) :
    exec (Instr.modU df wd ws wt) s = opModU df wd ws wt s := by cases df <;> rfl

/-! ## FixedPoint -/

theorem decode_mulQ (f : FmtHw) (wd ws wt : Reg) :
    decode (word3RF 4 f wd ws wt) = .ok (Instr.mulQ f wd ws wt) :=
  (decode_word3RF (op := 4) f _ _ _ (by decide)).trans (by cases f <;> rfl)

theorem exec_mulQ (f : FmtHw) (wd ws wt : Reg) (s : State) :
    exec (Instr.mulQ f wd ws wt) s = opMulQ f wd ws wt s := by cases f <;> rfl

theorem decode_mulrQ (f : FmtHw) (wd ws wt : Reg) :
    decode (word3RF 12 f wd ws wt) = .ok (Instr.mulrQ f wd ws wt) :=
  (decode_word3RF (op := 12) f _ _ _ (by decide)).trans (by cases f <;> rfl)

theorem exec_mulrQ (f : FmtHw) (wd ws wt : Reg) (s : State) :
    exec (Instr.mulrQ f wd ws wt) s = opMulrQ f wd ws wt s := by cases f <;> rfl

theorem decode_maddQ (f : FmtHw) (wd ws wt : Reg) :
    decode (word3RF 5 f wd ws wt) = .ok (Instr.maddQ f wd ws wt) :=
  (decode_word3RF (op := 5) f _ _ _ (by decide)).trans (by cases f <;> rfl)

theorem exec_maddQ (f : FmtHw) (wd ws wt : Reg) (s : State) :
    exec (Instr.maddQ f wd ws wt) s = opMaddQ f wd ws wt s := by cases f <;> rfl

theorem decode_maddrQ (f : FmtHw) (wd ws wt : Reg) :
    decode (word3RF 13 f wd ws wt) = .ok (Instr.maddrQ f wd ws wt) :=
  (decode_word3RF (op := 13) f _ _ _ (by decide)).trans (by cases f <;> rfl)

theorem exec_maddrQ (f : FmtHw) (wd ws wt : Reg) (s : State) :
    exec (Instr.maddrQ f wd ws wt) s = opMaddrQ f wd ws wt s := by cases f <;> rfl

theorem decode_msubQ (f : FmtHw) (wd ws wt : Reg) :
    decode (word3RF 6 f wd ws wt) = .ok (Instr.msubQ f wd ws wt) :=
  (decode_word3RF (op := 6) f _ _ _ (by decide)).trans (by cases f <;> rfl)

theorem exec_msubQ (f : FmtHw) (wd ws wt : Reg) (s : State) :
    exec (Instr.msubQ f wd ws wt) s = opMsubQ f wd ws wt s := by cases f <;> rfl

theorem decode_msubrQ (f : FmtHw) (wd ws wt : Reg) :
    decode (word3RF 14 f wd ws wt) = .ok (Instr.msubrQ f wd ws wt) :=
  (decode_word3RF (op := 14) f _ _ _ (by decide)).trans (by cases f <;> rfl)

theorem exec_msubrQ (f : FmtHw) (wd ws wt : Reg) (s : State) :
    exec (Instr.msubrQ f wd ws wt) s = opMsubrQ f wd ws wt s := by cases f <;> rfl

/-! ## BitOps -/

theorem decode_bclr (df : Fmt) (wd ws wt : Reg) :
    decode (word3R 13 3 df wd ws wt) = .ok (Instr.bclr df wd ws wt) :=
  (decode_word3R (minor := 13) (op := 3) _ _ _ _ (by decide) (by decide)).trans (by cases df <;> rfl)

theorem exec_bclr (df : Fmt) (wd ws wt : Reg) (s : State) :
    exec (Instr.bclr df wd ws wt) s = opBclr df wd ws wt s := by cases df <;> rfl

theorem decode_bclri (df : Fmt) (wd ws : Reg) (m : Nat) (h : m < laneBits df) :
    decode (wordBit 9 3 df wd ws m) = .ok (Instr.bclri df wd ws m) :=
  decode_wordBit (minor := 9) (op := 3) wd ws (by decide) (by decide) h

theorem exec_bclri (df : Fmt) (wd ws : Reg) (m : Nat) (s : State) :
    exec (Instr.bclri df wd ws m) s = opBclri df wd ws m s := by cases df <;> rfl

theorem decode_bset (df : Fmt) (wd ws wt : Reg) :
    decode (word3R 13 4 df wd ws wt) = .ok (Instr.bset df wd ws wt) :=
  (decode_word3R (minor := 13) (op := 4) _ _ _ _ (by decide) (by decide)).trans (by cases df <;> rfl)

theorem exec_bset (df : Fmt) (wd ws wt : Reg) (s : State) :
    exec (Instr.bset df wd ws wt) s = opBset df wd ws wt s := by cases df <;> rfl

theorem decode_bseti (df : Fmt) (wd ws : Reg) (m : Nat) (h : m < laneBits df) :
    decode (wordBit 9 4 df wd ws m) = .ok (Instr.bseti df wd ws m) :=
  decode_wordBit (minor := 9) (op := 4) wd ws (by decide) (by decide) h

theorem exec_bseti (df : Fmt) (wd ws : Reg) (m : Nat) (s : State) :
    exec (Instr.bseti df wd ws m) s = opBseti df wd ws m s := by cases df <;> rfl

theorem decode_bneg (df : Fmt) (wd ws wt : Reg) :
    decode (word3R 13 5 df wd ws wt) = .ok (Instr.bneg df wd ws wt) :=
  (decode_word3R (minor := 13) (op := 5) _ _ _ _ (by decide) (by decide)).trans (by cases df <;> rfl)

theorem exec_bneg (df : Fmt) (wd ws wt : Reg) (s : State) :
    exec (Instr.bneg df wd ws wt) s = opBneg df wd ws wt s := by cases df <;> rfl

theorem decode_bnegi (df : Fmt) (wd ws : Reg) (m : Nat) (h : m < laneBits df) :
    decode (wordBit 9 5 df wd ws m) = .ok (Instr.bnegi df wd ws m) :=
  decode_wordBit (minor := 9) (op := 5) wd ws (by decide) (by decide) h

theorem exec_bnegi (df : Fmt) (wd ws : Reg) (m : Nat) (s : State) :
    exec (Instr.bnegi df wd ws m) s = opBnegi df wd ws m s := by cases df <;> rfl

theorem decode_binsl (df : Fmt) (wd ws wt : Reg) :
    decode (word3R 13 6 df wd ws wt) = .ok (Instr.binsl df wd ws wt) :=
  (decode_word3R (minor := 13) (op := 6) _ _ _ _ (by decide) (by decide)).trans (by cases df <;> rfl)

theorem exec_binsl (df : Fmt) (wd ws wt : Reg) (s : State) :
    exec (Instr.binsl df wd ws wt) s = opBinsl df wd ws wt s := by cases df <;> rfl

theorem decode_binsli (df : Fmt) (wd ws : Reg) (m : Nat) (h : m < laneBits df) :
    decode (wordBit 9 6 df wd ws m) = .ok (Instr.binsli df wd ws m) :=
  decode_wordBit (minor := 9) (op := 6) wd ws (by decide) (by decide) h

theorem exec_binsli (df : Fmt) (wd ws : Reg) (m : Nat) (s : State) :
    exec (Instr.binsli df wd ws m) s = opBinsli df wd ws m s := by cases df <;> rfl

theorem decode_binsr (df : Fmt) (wd ws wt : Reg) :
    decode (word3R 13 7 df wd ws wt) = .ok (Instr.binsr df wd ws wt) :=
  (decode_word3R (minor := 13) (op := 7) _ _ _ _ (by decide) (by decide)).trans (by cases df <;> rfl)

theorem exec_binsr (df : Fmt) (wd ws wt : Reg) (s : State) :
    exec (Instr.binsr df wd ws wt) s = opBinsr df wd ws wt s := by cases df <;> rfl

theorem decode_binsri (df : Fmt) (wd ws : Reg) (m : Nat) (h : m < laneBits df) :
    decode (wordBit 9 7 df wd ws m) = .ok (Instr.binsri df wd ws m) :=
  decode_wordBit (minor := 9) (op := 7) wd ws (by decide) (by decide) h

theorem exec_binsri (df : Fmt) (wd ws : Reg) (m : Nat) (s : State) :
    exec (Instr.binsri df wd ws m) s = opBinsri df wd ws m s := by cases df <;> rfl

theorem decode_satS (df : Fmt) (wd ws : Reg) (m : Nat) (h : m < laneBits df) :
    decode (wordBit 10 0 df wd ws m) = .ok (Instr.satS df wd ws m) :=
  decode_wordBit (minor := 10) (op := 0) wd ws (by decide) (by decide) h

theorem exec_satS (df : Fmt) (wd ws : Reg) (m : Nat) (s : State) :
    exec (Instr.satS df wd ws m) s = opSatS df wd ws m s := by cases df <;> rfl

theorem decode_satU (df : Fmt) (wd ws : Reg) (m : Nat) (h : m < laneBits df) :
    decode (wordBit 10 1 df wd ws m) = .ok (Instr.satU df wd ws m) :=
  decode_wordBit (minor := 10) (op := 1) wd ws (by decide) (by decide) h

theorem exec_satU (df : Fmt) (wd ws : Reg) (m : Nat) (s : State) :
    exec (Instr.satU df wd ws m) s = opSatU df wd ws m s := by cases df <;> rfl

theorem decode_pcnt (df : Fmt) (wd ws : Reg) :
    decode (word2R 1 df wd ws) = .ok (Instr.pcnt df wd ws) :=
  decode_word2R (op := 1) df _ _ (by decide)

theorem exec_pcnt (df : Fmt) (wd ws : Reg) (s : State) :
    exec (Instr.pcnt df wd ws) s = opPcnt df wd ws s := by cases df <;> rfl

theorem decode_nloc (df : Fmt) (wd ws : Reg) :
    decode (word2R 2 df wd ws) = .ok (Instr.nloc df wd ws) :=
  decode_word2R (op := 2) df _ _ (by decide)

theorem exec_nloc (df : Fmt) (wd ws : Reg) (s : State) :
    exec (Instr.nloc df wd ws) s = opNloc df wd ws s := by cases df <;> rfl

theorem decode_nlzc (df : Fmt) (wd ws : Reg) :
    decode (word2R 3 df wd ws) = .ok (Instr.nlzc df wd ws) :=
  decode_word2R (op := 3) df _ _ (by decide)

theorem exec_nlzc (df : Fmt) (wd ws : Reg) (s : State) :
    exec (Instr.nlzc df wd ws) s = opNlzc df wd ws s := by cases df <;> rfl

/-! ## Logic -/

theorem decode_and (wd ws wt : Reg) :
    decode (wordVec 0 wd ws wt) = .ok (Instr.andV wd ws wt) :=
  decode_wordVec (op := 0) wd ws wt (by decide)

theorem exec_and (wd ws wt : Reg) (s : State) :
    exec (Instr.andV wd ws wt) s = opAnd wd ws wt s := rfl

theorem decode_or (wd ws wt : Reg) :
    decode (wordVec 1 wd ws wt) = .ok (Instr.orV wd ws wt) :=
  decode_wordVec (op := 1) wd ws wt (by decide)

theorem exec_or (wd ws wt : Reg) (s : State) :
    exec (Instr.orV wd ws wt) s = opOr wd ws wt s := rfl

theorem decode_nor (wd ws wt : Reg) :
    decode (wordVec 2 wd ws wt) = .ok (Instr.norV wd ws wt) :=
  decode_wordVec (op := 2) wd ws wt (by decide)

theorem exec_nor (wd ws wt : Reg) (s : State) :
    exec (Instr.norV wd ws wt) s = opNor wd ws wt s := rfl

theorem decode_xor (wd ws wt : Reg) :
    decode (wordVec 3 wd ws wt) = .ok (Instr.xorV wd ws wt) :=
  decode_wordVec (op := 3) wd ws wt (by decide)

theorem exec_xor (wd ws wt : Reg) (s : State) :
    exec (Instr.xorV wd ws wt) s = opXor wd ws wt s := rfl

theorem decode_andi (wd ws : Reg) (i8 : Nat) (h : i8 ≤ 255) :
    decode (wordI8 0 0 wd ws i8) = .ok (Instr.andiB wd ws i8) :=
  decode_wordI8 (minor := 0) (op := 0) wd ws (by decide) (by decide) (Nat.lt_succ_of_le h)

theorem exec_andi (wd ws : Reg) (i8 : Nat) (s : State) :
    exec (Instr.andiB wd ws i8) s = opAndi wd ws i8 s := rfl

theorem decode_ori (wd ws : Reg) (i8 : Nat) (h : i8 ≤ 255) :
    decode (wordI8 0 1 wd ws i8) = .ok (Instr.oriB wd ws i8) :=
  decode_wordI8 (minor := 0) (op := 1) wd ws (by decide) (by decide) (Nat.lt_succ_of_le h)

theorem exec_ori (wd ws : Reg) (i8 : Nat) (s : State) :
    exec (Instr.oriB wd ws i8) s = opOri wd ws i8 s := rfl

theorem decode_nori (wd ws : Reg) (i8 : Nat) (h : i8 ≤ 255) :
    decode (wordI8 0 2 wd ws i8) = .ok (Instr.noriB wd ws i8) :=
  decode_wordI8 (minor := 0) (op := 2) wd ws (by decide) (by decide) (Nat.lt_succ_of_le h)

theorem exec_nori (wd ws : Reg) (i8 : Nat) (s : State) :
    exec (Instr.noriB wd ws i8) s = opNori wd ws i8 s := rfl

theorem decode_xori (wd ws : Reg) (i8 : Nat) (h : i8 ≤ 255) :
    decode (wordI8 0 3 wd ws i8) = .ok (Instr.xoriB wd ws i8) :=
  decode_wordI8 (minor := 0) (op := 3) wd ws (by decide) (by decide) (Nat.lt_succ_of_le h)

theorem exec_xori (wd ws : Reg) (i8 : Nat) (s : State) :
    exec (Instr.xoriB wd ws i8) s = opXori wd ws i8 s := rfl

theorem decode_bmnz (wd ws wt : Reg) :
    decode (wordVec 4 wd ws wt) = .ok (Instr.bmnzV wd ws wt) :=
  decode_wordVec (op := 4) wd ws wt (by decide)

theorem exec_bmnz (wd ws wt : Reg) (s : State) :
    exec (Instr.bmnzV wd ws wt) s = opBmnz wd ws wt s := rfl

theorem decode_bmz (wd ws wt : Reg) :
    decode (wordVec 5 wd ws wt) = .ok (Instr.bmzV wd ws wt) :=
  decode_wordVec (op := 5) wd ws wt (by decide)

theorem exec_bmz (wd ws wt : Reg) (s : State) :
    exec (Instr.bmzV wd ws wt) s = opBmz wd ws wt s := rfl

theorem decode_bsel (wd ws wt : Reg) :
    decode (wordVec 6 wd ws wt) = .ok (Instr.bselV wd ws wt) :=
  decode_wordVec (op := 6) wd ws wt (by decide)

theorem exec_bsel (wd ws wt : Reg) (s : State) :
    exec (Instr.bselV wd ws wt) s = opBsel wd ws wt s := rfl

theorem decode_bmnzi (wd ws : Reg) (i8 : Nat) (h : i8 ≤ 255) :
    decode (wordI8 1 0 wd ws i8) = .ok (Instr.bmnziB wd ws i8) :=
  decode_wordI8 (minor := 1) (op := 0) wd ws (by decide) (by decide) (Nat.lt_succ_of_le h)

theorem exec_bmnzi (wd ws : Reg) (i8 : Nat) (s : State) :
    exec (Instr.bmnziB wd ws i8) s = opBmnzi wd ws i8 s := rfl

theorem decode_bmzi (wd ws : Reg) (i8 : Nat) (h : i8 ≤ 255) :
    decode (wordI8 1 1 wd ws i8) = .ok (Instr.bmziB wd ws i8) :=
  decode_wordI8 (minor := 1) (op := 1) wd ws (by decide) (by decide) (Nat.lt_succ_of_le h)

theorem exec_bmzi (wd ws : Reg) (i8 : Nat) (s : State) :
    exec (Instr.bmziB wd ws i8) s = opBmzi wd ws i8 s := rfl

theorem decode_bseli (wd ws : Reg) (i8 : Nat) (h : i8 ≤ 255) :
    decode (wordI8 1 2 wd ws i8) = .ok (Instr.bseliB wd ws i8) :=
  decode_wordI8 (minor := 1) (op := 2) wd ws (by decide) (by decide) (Nat.lt_succ_of_le h)

theorem exec_bseli (wd ws : Reg) (i8 : Nat) (s : State) :
    exec (Instr.bseliB wd ws i8) s = opBseli wd ws i8 s := rfl

/-! ## Shift -/

theorem decode_sll (df : Fmt) (wd ws wt : Reg) :
    decode (word3R 13 0 df wd ws wt) = .ok (Instr.sll df wd ws wt) :=
  (decode_word3R (minor := 13) (op := 0) _ _ _ _ (by decide) (by decide)).trans (by cases df <;> rfl)

theorem exec_sll (df : Fmt) (wd ws wt : Reg) (s : State) :
    exec (Instr.sll df wd ws wt) s = opSll df wd ws wt s := by cases df <;> rfl

theorem decode_slli (df : Fmt) (wd ws : Reg) (m : Nat) (h : m < laneBits df) :
    decode (wordBit 9 0 df wd ws m) = .ok (Instr.slli df wd ws m) :=
  decode_wordBit (minor := 9) (op := 0) wd ws (by decide) (by decide) h

theorem exec_slli (df : Fmt) (wd ws : Reg) (m : Nat) (s : State) :
    exec (Instr.slli df wd ws m) s = opSlli df wd ws m s := by cases df <;> rfl

theorem decode_sra (df : Fmt) (wd ws wt : Reg) :
    decode (word3R 13 1 df wd ws wt) = .ok (Instr.sra df wd ws wt) :=
  (decode_word3R (minor := 13) (op := 1) _ _ _ _ (by decide) (by decide)).trans (by cases df <;> rfl)

theorem exec_sra (df : Fmt) (wd ws wt : Reg) (s : State) :
    exec (Instr.sra df wd ws wt) s = opSra df wd ws wt s := by cases df <;> rfl

theorem decode_srai (df : Fmt) (wd ws : Reg) (m : Nat) (h : m < laneBits df) :
    decode (wordBit 9 1 df wd ws m) = .ok (Instr.srai df wd ws m) :=
  decode_wordBit (minor := 9) (op := 1) wd ws (by decide) (by decide) h

theorem exec_srai (df : Fmt) (wd ws : Reg) (m : Nat) (s : State) :
    exec (Instr.srai df wd ws m) s = opSrai df wd ws m s := by cases df <;> rfl

theorem decode_srl (df : Fmt) (wd ws wt : Reg) :
    decode (word3R 13 2 df wd ws wt) = .ok (Instr.srl df wd ws wt) :=
  (decode_word3R (minor := 13) (op := 2) _ _ _ _ (by decide) (by decide)).trans (by cases df <;> rfl)

theorem exec_srl (df : Fmt) (wd ws wt : Reg) (s : State) :
    exec (Instr.srl df wd ws wt) s = opSrl df wd ws wt s := by cases df <;> rfl

theorem decode_srli (df : Fmt) (wd ws : Reg) (m : Nat) (h : m < laneBits df) :
    decode (wordBit 9 2 df wd ws m) = .ok (Instr.srli df wd ws m) :=
  decode_wordBit (minor := 9) (op := 2) wd ws (by decide) (by decide) h

theorem exec_srli (df : Fmt) (wd ws : Reg) (m : Nat) (s : State) :
    exec (Instr.srli df wd ws m) s = opSrli df wd ws m s := by cases df <;> rfl

theorem decode_srar (df : Fmt) (wd ws wt : Reg) :
    decode (word3R 21 1 df wd ws wt) = .ok (Instr.srar df wd ws wt) :=
  (decode_word3R (minor := 21) (op := 1) _ _ _ _ (by decide) (by decide)).trans (by cases df <;> rfl)

theorem exec_srar (df : Fmt) (wd ws wt : Reg) (s : State) :
    exec (Instr.srar df wd ws wt) s = opSrar df wd ws wt s := by cases df <;> rfl

theorem decode_srari (df : Fmt) (wd ws : Reg) (m : Nat) (h : m < laneBits df) :
    decode (wordBit 10 2 df wd ws m) = .ok (Instr.srari df wd ws m) :=
  decode_wordBit (minor := 10) (op := 2) wd ws (by decide) (by decide) h

theorem exec_srari (df : Fmt) (wd ws : Reg) (m : Nat) (s : State) :
    exec (Instr.srari df wd ws m) s = opSrari df wd ws m s := by cases df <;> rfl

theorem decode_srlr (df : Fmt) (wd ws wt : Reg) :
    decode (word3R 21 2 df wd ws wt) = .ok (Instr.srlr df wd ws wt) :=
  (decode_word3R (minor := 21) (op := 2) _ _ _ _ (by decide) (by decide)).trans (by cases df <;> rfl)

theorem exec_srlr (df : Fmt) (wd ws wt : Reg) (s : State) :
    exec (Instr.srlr df wd ws wt) s = opSrlr df wd ws wt s := by cases df <;> rfl

theorem decode_srlri (df : Fmt) (wd ws : Reg) (m : Nat) (h : m < laneBits df) :
    decode (wordBit 10 3 df wd ws m) = .ok (Instr.srlri df wd ws m) :=
  decode_wordBit (minor := 10) (op := 3) wd ws (by decide) (by decide) h

theorem exec_srlri (df : Fmt) (wd ws : Reg) (m : Nat) (s : State) :
    exec (Instr.srlri df wd ws m) s = opSrlri df wd ws m s := by cases df <;> rfl

/-! ## Permute -/

theorem decode_ilvev (df : Fmt) (wd ws wt : Reg) :
    decode (word3R 20 6 df wd ws wt) = .ok (Instr.ilvev df wd ws wt) :=
  (decode_word3R (minor := 20) (op := 6) _ _ _ _ (by decide) (by decide)).trans (by cases df <;> rfl)

theorem exec_ilvev (df : Fmt) (wd ws wt : Reg) (s : State) :
    exec (Instr.ilvev df wd ws wt) s = opIlvev df wd ws wt s := by cases df <;> rfl

theorem decode_ilvod (df : Fmt) (wd ws wt : Reg) :
    decode (word3R 20 7 df wd ws wt) = .ok (Instr.ilvod df wd ws wt) :=
  (decode_word3R (minor := 20) (op := 7) _ _ _ _ (by decide) (by decide)).trans (by cases df <;> rfl)

theorem exec_ilvod (df : Fmt) (wd ws wt : Reg) (s : State) :
    exec (Instr.ilvod df wd ws wt) s = opIlvod df wd ws wt s := by cases df <;> rfl

theorem decode_ilvl (df : Fmt) (wd ws wt : Reg) :
    decode (word3R 20 4 df wd ws wt) = .ok (Instr.ilvl df wd ws wt) :=
  (decode_word3R (minor := 20) (op := 4) _ _ _ _ (by decide) (by decide)).trans (by cases df <;> rfl)

theorem exec_ilvl (df : Fmt) (wd ws wt : Reg) (s : State) :
    exec (Instr.ilvl df wd ws wt) s = opIlvl df wd ws wt s := by cases df <;> rfl

theorem decode_ilvr (df : Fmt) (wd ws wt : Reg) :
    decode (word3R 20 5 df wd ws wt) = .ok (Instr.ilvr df wd ws wt) :=
  (decode_word3R (minor := 20) (op := 5) _ _ _ _ (by decide) (by decide)).trans (by cases df <;> rfl)

theorem exec_ilvr (df : Fmt) (wd ws wt : Reg) (s : State) :
    exec (Instr.ilvr df wd ws wt) s = opIlvr df wd ws wt s := by cases df <;> rfl

theorem decode_pckev (df : Fmt) (wd ws wt : Reg) :
    decode (word3R 20 2 df wd ws wt) = .ok (Instr.pckev df wd ws wt) :=
  (decode_word3R (minor := 20) (op := 2) _ _ _ _ (by decide) (by decide)).trans (by cases df <;> rfl)

theorem exec_pckev (df : Fmt) (wd ws wt : Reg) (s : State) :
    exec (Instr.pckev df wd ws wt) s = opPckev df wd ws wt s := by cases df <;> rfl

theorem decode_pckod (df : Fmt) (wd ws wt : Reg) :
    decode (word3R 20 3 df wd ws wt) = .ok (Instr.pckod df wd ws wt) :=
  (decode_word3R (minor := 20) (op := 3) _ _ _ _ (by decide) (by decide)).trans (by cases df <;> rfl)

theorem exec_pckod (df : Fmt) (wd ws wt : Reg) (s : State) :
    exec (Instr.pckod df wd ws wt) s = opPckod df wd ws wt s := by cases df <;> rfl

theorem decode_vshf (df : Fmt) (wd ws wt : Reg) :
    decode (word3R 21 0 df wd ws wt) = .ok (Instr.vshf df wd ws wt) :=
  (decode_word3R (minor := 21) (op := 0) _ _ _ _ (by decide) (by decide)).trans (by cases df <;> rfl)

theorem exec_vshf (df : Fmt) (wd ws wt : Reg) (s : State) :
    exec (Instr.vshf df wd ws wt) s = opVshf df wd ws wt s := by cases df <;> rfl

theorem decode_shf (f : FmtBhw) (wd ws : Reg) (i8 : Nat) (h : i8 ≤ 255) :
    decode (wordI8 2 (match f with | .b => 0 | .h => 1 | .w => 2) wd ws i8) = .ok (Instr.shf f wd ws i8) :=
  by
  cases f <;> exact decode_wordI8 (minor := 2) wd ws (by decide) (by decide) (Nat.lt_succ_of_le h)

theorem exec_shf (f : FmtBhw) (wd ws : Reg) (i8 : Nat) (s : State) :
    exec (Instr.shf f wd ws i8) s = opShf f.fmt wd ws i8 s := by cases f <;> rfl

theorem decode_sld (df : Fmt) (wd ws : Reg) (rt : Gpr) :
    decode (word3R 20 0 df wd ws rt) = .ok (Instr.sld df wd ws rt) :=
  (decode_word3R (minor := 20) (op := 0) _ _ _ _ (by decide) (by decide)).trans (by cases df <;> rfl)

theorem exec_sld (df : Fmt) (wd ws : Reg) (rt : Gpr) (s : State) :
    exec (Instr.sld df wd ws rt) s = opSld df wd ws rt s := by cases df <;> rfl

theorem decode_sldi (df : Fmt) (wd ws : Reg) (n : Nat) (h : n < laneCount df) :
    decode (wordElm 0 df wd ws n) = .ok (Instr.sldi df wd ws n) :=
  (decode_wordElm (op := 0) _ _ (by decide) h).trans (by cases df <;> rfl)

theorem exec_sldi (df : Fmt) (wd ws : Reg) (n : Nat) (s : State) :
    exec (Instr.sldi df wd ws n) s = opSldi df wd ws n s := by cases df <;> rfl

theorem decode_splat (df : Fmt) (wd ws : Reg) (rt : Gpr) :
    decode (word3R 20 1 df wd ws rt) = .ok (Instr.splat df wd ws rt) :=
  (decode_word3R (minor := 20) (op := 1) _ _ _ _ (by decide) (by decide)).trans (by cases df <;> rfl)

theorem exec_splat (df : Fmt) (wd ws : Reg) (rt : Gpr) (s : State) :
    exec (Instr.splat df wd ws rt) s = opSplat df wd ws rt s := by cases df <;> rfl

theorem decode_splati (df : Fmt) (wd ws : Reg) (n : Nat) (h : n < laneCount df) :
    decode (wordElm 1 df wd ws n) = .ok (Instr.splati df wd ws n) :=
  (decode_wordElm (op := 1) _ _ (by decide) h).trans (by cases df <;> rfl)

theorem exec_splati (df : Fmt) (wd ws : Reg) (n : Nat) (s : State) :
    exec (Instr.splati df wd ws n) s = opSplati df wd ws n s := by cases df <;> rfl

theorem decode_ldi (df : Fmt) (wd : Reg) (s10 : Int) (h1 : -512 ≤ s10) (h2 : s10 ≤ 511) :
    decode (wordI10 df wd (unsigned 10 s10)) = .ok (Instr.ldi df wd s10) :=
  (decode_wordI10 df wd (unsigned_lt 10 s10)).trans
    (congrArg (fun v => Except.ok (Instr.ldi df wd v)) (signed_unsigned10 h1 h2))

theorem exec_ldi (df : Fmt) (wd : Reg) (s10 : Int) (s : State) :
    exec (Instr.ldi df wd s10) s = opLdi df wd s10 s := by cases df <;> rfl

end Sys2Proof.Machine
end

