-- ==== Sys2Proof/Laws/Outcome.lean ====
section
/-! SUPPORT. All that `exec` can do, said once: the three ways an instruction stops and the two ways it completes. A
claim about every instruction is a case analysis on `exec_outcome`. -/

namespace Sys2Proof.Machine

set_option Elab.async false

/-- The instruction's immediate and lane index are in range and its form exists at this GPRLEN. -/
structure Admitted (i : Instr) (s : State) : Prop where
  wellFormed : i.wellFormed = true
  laneIndexOk : i.laneIndexOk = true
  gprLen : i.needsGprLen64 = true → s.params.gprLen = .w64

/-- The outcomes of `exec i s`, each with what decides it. -/
inductive ExecOutcome (i : Instr) (s : State) : Result → Prop
  | immediate (h : i.wellFormed = false) : ExecOutcome i s (.refused .immediateOutOfRange)
  | width (h : i.needsGprLen64 = true) (hg : s.params.gprLen = .w32) :
      ExecOutcome i s (.refused .reservedAtGprLen32)
  | index {df : Fmt} {n : Nat} (h : i.laneIndex = some (df, n)) (hn : laneCount df ≤ n)
      (hg : i.needsGprLen64 = true → s.params.gprLen = .w64) :
      ExecOutcome i s (.fault (.reservedInstruction df n))
  | vector {wd : Reg} (V : Vec) (h : Admitted i s) (hd : i.vecDest = some wd) (hr : i.gprDest = none) :
      ExecOutcome i s (.next (commit s wd V))
  | scalar {rd : Gpr} (v : Int) (h : Admitted i s) (hd : i.vecDest = none) (hr : i.gprDest = some rd) :
      ExecOutcome i s (.next { s with gprOut := scalarOut s rd v })

namespace ExecOutcome

variable {i : Instr} {s : State} {df : Fmt} {wd ws wt : Reg}

theorem of_lanewise3 {k : Lane df → Lane df → Lane df → Int} (h1 : i.wellFormed = true)
    (h2 : i.laneIndexOk = true) (h3 : i.needsGprLen64 = true → s.params.gprLen = .w64)
    (hd : i.vecDest = some wd) (hr : i.gprDest = none) : ExecOutcome i s (lanewise3 df wd ws wt k s) := by
  obtain ⟨V, hV, -⟩ := lanewise3_spec df wd ws wt k s
  rw [hV]; exact .vector V ⟨h1, h2, h3⟩ hd hr

theorem of_lanewise2 {k : Lane df → Lane df → Int} (h1 : i.wellFormed = true)
    (h2 : i.laneIndexOk = true) (h3 : i.needsGprLen64 = true → s.params.gprLen = .w64)
    (hd : i.vecDest = some wd) (hr : i.gprDest = none) : ExecOutcome i s (lanewise2 df wd ws k s) := by
  obtain ⟨V, hV, -⟩ := lanewise2_spec df wd ws k s
  rw [hV]; exact .vector V ⟨h1, h2, h3⟩ hd hr

theorem of_broadcast {v : Int} (h1 : i.wellFormed = true)
    (h2 : i.laneIndexOk = true) (h3 : i.needsGprLen64 = true → s.params.gprLen = .w64)
    (hd : i.vecDest = some wd) (hr : i.gprDest = none) : ExecOutcome i s (broadcast df wd v s) := by
  obtain ⟨V, hV, -⟩ := broadcast_spec df wd v s
  rw [hV]; exact .vector V ⟨h1, h2, h3⟩ hd hr

theorem of_staged {writes : List (Nat × Lane df)} (h1 : i.wellFormed = true)
    (h2 : i.laneIndexOk = true) (h3 : i.needsGprLen64 = true → s.params.gprLen = .w64)
    (hd : i.vecDest = some wd) (hr : i.gprDest = none) : ExecOutcome i s (staged df wd writes s) := by
  rw [staged_eq]; exact .vector _ ⟨h1, h2, h3⟩ hd hr

theorem of_whole {V : Vec} (h1 : i.wellFormed = true)
    (h2 : i.laneIndexOk = true) (h3 : i.needsGprLen64 = true → s.params.gprLen = .w64)
    (hd : i.vecDest = some wd) (hr : i.gprDest = none) : ExecOutcome i s (whole wd V s) := by
  rw [whole_spec]; exact .vector _ ⟨h1, h2, h3⟩ hd hr

theorem of_oneLane {n : Nat} {v : Int} (h1 : i.wellFormed = true)
    (h2 : n < laneCount df ∧ i.laneIndexOk = true) (h3 : i.needsGprLen64 = true → s.params.gprLen = .w64)
    (hd : i.vecDest = some wd) (hr : i.gprDest = none) : ExecOutcome i s (oneLane df wd n v s) := by
  rw [oneLane_spec _ _ _ _ h2.1]; exact .vector _ ⟨h1, h2.2, h3⟩ hd hr

theorem of_driveGprOut {rd : Gpr} {v : Int} (h1 : i.wellFormed = true)
    (h2 : i.laneIndexOk = true) (h3 : i.needsGprLen64 = true → s.params.gprLen = .w64)
    (hd : i.vecDest = none) (hr : i.gprDest = some rd) : ExecOutcome i s (driveGprOut s rd v) :=
  .scalar v ⟨h1, h2, h3⟩ hd hr

theorem of_withImmediate {b : Bool} {r : Result} (hb : i.wellFormed = b)
    (hr : i.wellFormed = true → ExecOutcome i s r) : ExecOutcome i s (withImmediate b r) := by
  cases b
  · exact .immediate hb
  · exact hr hb

theorem of_checkIndex {n : Nat} {r : Result} (hi : i.laneIndex = some (df, n))
    (hg : i.needsGprLen64 = true → s.params.gprLen = .w64)
    (hr : n < laneCount df ∧ i.laneIndexOk = true → ExecOutcome i s r) :
    ExecOutcome i s (checkIndex df n r) := by
  rcases Nat.lt_or_ge n (laneCount df) with h | h
  · rw [checkIndex_of_lt h]
    exact hr ⟨h, by simp [Instr.laneIndexOk, hi, nOk, h]⟩
  · rw [checkIndex_of_ge h]
    exact .index hi h hg

theorem of_requireGprLen64 {r : Result} (hn : i.needsGprLen64 = true)
    (hr : s.params.gprLen = .w64 → ExecOutcome i s r) : ExecOutcome i s (requireGprLen64 s r) := by
  cases hg : s.params.gprLen
  · simp only [requireGprLen64, hg]; exact .width hn hg
  · simp only [requireGprLen64, hg]; exact hr hg

end ExecOutcome

/-! ## Operation by operation -/

theorem outcome_sll (df : Fmt) (wd ws wt : Reg) (s : State) :
    ExecOutcome (Instr.sll df wd ws wt) s (exec (Instr.sll df wd ws wt) s) := by
  rw [exec_sll, opSll]
  cases df <;>
    exact .of_lanewise3 rfl rfl (fun h => nomatch h) rfl rfl

theorem outcome_sra (df : Fmt) (wd ws wt : Reg) (s : State) :
    ExecOutcome (Instr.sra df wd ws wt) s (exec (Instr.sra df wd ws wt) s) := by
  rw [exec_sra, opSra]
  cases df <;>
    exact .of_lanewise3 rfl rfl (fun h => nomatch h) rfl rfl

theorem outcome_srl (df : Fmt) (wd ws wt : Reg) (s : State) :
    ExecOutcome (Instr.srl df wd ws wt) s (exec (Instr.srl df wd ws wt) s) := by
  rw [exec_srl, opSrl]
  cases df <;>
    exact .of_lanewise3 rfl rfl (fun h => nomatch h) rfl rfl

theorem outcome_bclr (df : Fmt) (wd ws wt : Reg) (s : State) :
    ExecOutcome (Instr.bclr df wd ws wt) s (exec (Instr.bclr df wd ws wt) s) := by
  rw [exec_bclr, opBclr]
  cases df <;>
    exact .of_lanewise3 rfl rfl (fun h => nomatch h) rfl rfl

theorem outcome_bset (df : Fmt) (wd ws wt : Reg) (s : State) :
    ExecOutcome (Instr.bset df wd ws wt) s (exec (Instr.bset df wd ws wt) s) := by
  rw [exec_bset, opBset]
  cases df <;>
    exact .of_lanewise3 rfl rfl (fun h => nomatch h) rfl rfl

theorem outcome_bneg (df : Fmt) (wd ws wt : Reg) (s : State) :
    ExecOutcome (Instr.bneg df wd ws wt) s (exec (Instr.bneg df wd ws wt) s) := by
  rw [exec_bneg, opBneg]
  cases df <;>
    exact .of_lanewise3 rfl rfl (fun h => nomatch h) rfl rfl

theorem outcome_binsl (df : Fmt) (wd ws wt : Reg) (s : State) :
    ExecOutcome (Instr.binsl df wd ws wt) s (exec (Instr.binsl df wd ws wt) s) := by
  rw [exec_binsl, opBinsl]
  cases df <;>
    exact .of_lanewise3 rfl rfl (fun h => nomatch h) rfl rfl

theorem outcome_binsr (df : Fmt) (wd ws wt : Reg) (s : State) :
    ExecOutcome (Instr.binsr df wd ws wt) s (exec (Instr.binsr df wd ws wt) s) := by
  rw [exec_binsr, opBinsr]
  cases df <;>
    exact .of_lanewise3 rfl rfl (fun h => nomatch h) rfl rfl

theorem outcome_addv (df : Fmt) (wd ws wt : Reg) (s : State) :
    ExecOutcome (Instr.addv df wd ws wt) s (exec (Instr.addv df wd ws wt) s) := by
  rw [exec_addv, opAddv]
  cases df <;>
    exact .of_lanewise3 rfl rfl (fun h => nomatch h) rfl rfl

theorem outcome_subv (df : Fmt) (wd ws wt : Reg) (s : State) :
    ExecOutcome (Instr.subv df wd ws wt) s (exec (Instr.subv df wd ws wt) s) := by
  rw [exec_subv, opSubv]
  cases df <;>
    exact .of_lanewise3 rfl rfl (fun h => nomatch h) rfl rfl

theorem outcome_maxS (df : Fmt) (wd ws wt : Reg) (s : State) :
    ExecOutcome (Instr.maxS df wd ws wt) s (exec (Instr.maxS df wd ws wt) s) := by
  rw [exec_maxS, opMaxS]
  cases df <;>
    exact .of_lanewise3 rfl rfl (fun h => nomatch h) rfl rfl

theorem outcome_maxU (df : Fmt) (wd ws wt : Reg) (s : State) :
    ExecOutcome (Instr.maxU df wd ws wt) s (exec (Instr.maxU df wd ws wt) s) := by
  rw [exec_maxU, opMaxU]
  cases df <;>
    exact .of_lanewise3 rfl rfl (fun h => nomatch h) rfl rfl

theorem outcome_minS (df : Fmt) (wd ws wt : Reg) (s : State) :
    ExecOutcome (Instr.minS df wd ws wt) s (exec (Instr.minS df wd ws wt) s) := by
  rw [exec_minS, opMinS]
  cases df <;>
    exact .of_lanewise3 rfl rfl (fun h => nomatch h) rfl rfl

theorem outcome_minU (df : Fmt) (wd ws wt : Reg) (s : State) :
    ExecOutcome (Instr.minU df wd ws wt) s (exec (Instr.minU df wd ws wt) s) := by
  rw [exec_minU, opMinU]
  cases df <;>
    exact .of_lanewise3 rfl rfl (fun h => nomatch h) rfl rfl

theorem outcome_maxA (df : Fmt) (wd ws wt : Reg) (s : State) :
    ExecOutcome (Instr.maxA df wd ws wt) s (exec (Instr.maxA df wd ws wt) s) := by
  rw [exec_maxA, opMaxA]
  cases df <;>
    exact .of_lanewise3 rfl rfl (fun h => nomatch h) rfl rfl

theorem outcome_minA (df : Fmt) (wd ws wt : Reg) (s : State) :
    ExecOutcome (Instr.minA df wd ws wt) s (exec (Instr.minA df wd ws wt) s) := by
  rw [exec_minA, opMinA]
  cases df <;>
    exact .of_lanewise3 rfl rfl (fun h => nomatch h) rfl rfl

theorem outcome_ceq (df : Fmt) (wd ws wt : Reg) (s : State) :
    ExecOutcome (Instr.ceq df wd ws wt) s (exec (Instr.ceq df wd ws wt) s) := by
  rw [exec_ceq, opCeq]
  cases df <;>
    exact .of_lanewise3 rfl rfl (fun h => nomatch h) rfl rfl

theorem outcome_cltS (df : Fmt) (wd ws wt : Reg) (s : State) :
    ExecOutcome (Instr.cltS df wd ws wt) s (exec (Instr.cltS df wd ws wt) s) := by
  rw [exec_cltS, opCltS]
  cases df <;>
    exact .of_lanewise3 rfl rfl (fun h => nomatch h) rfl rfl

theorem outcome_cltU (df : Fmt) (wd ws wt : Reg) (s : State) :
    ExecOutcome (Instr.cltU df wd ws wt) s (exec (Instr.cltU df wd ws wt) s) := by
  rw [exec_cltU, opCltU]
  cases df <;>
    exact .of_lanewise3 rfl rfl (fun h => nomatch h) rfl rfl

theorem outcome_cleS (df : Fmt) (wd ws wt : Reg) (s : State) :
    ExecOutcome (Instr.cleS df wd ws wt) s (exec (Instr.cleS df wd ws wt) s) := by
  rw [exec_cleS, opCleS]
  cases df <;>
    exact .of_lanewise3 rfl rfl (fun h => nomatch h) rfl rfl

theorem outcome_cleU (df : Fmt) (wd ws wt : Reg) (s : State) :
    ExecOutcome (Instr.cleU df wd ws wt) s (exec (Instr.cleU df wd ws wt) s) := by
  rw [exec_cleU, opCleU]
  cases df <;>
    exact .of_lanewise3 rfl rfl (fun h => nomatch h) rfl rfl

theorem outcome_addA (df : Fmt) (wd ws wt : Reg) (s : State) :
    ExecOutcome (Instr.addA df wd ws wt) s (exec (Instr.addA df wd ws wt) s) := by
  rw [exec_addA, opAddA]
  cases df <;>
    exact .of_lanewise3 rfl rfl (fun h => nomatch h) rfl rfl

theorem outcome_addsA (df : Fmt) (wd ws wt : Reg) (s : State) :
    ExecOutcome (Instr.addsA df wd ws wt) s (exec (Instr.addsA df wd ws wt) s) := by
  rw [exec_addsA, opAddsA]
  cases df <;>
    exact .of_lanewise3 rfl rfl (fun h => nomatch h) rfl rfl

theorem outcome_addsS (df : Fmt) (wd ws wt : Reg) (s : State) :
    ExecOutcome (Instr.addsS df wd ws wt) s (exec (Instr.addsS df wd ws wt) s) := by
  rw [exec_addsS, opAddsS]
  cases df <;>
    exact .of_lanewise3 rfl rfl (fun h => nomatch h) rfl rfl

theorem outcome_addsU (df : Fmt) (wd ws wt : Reg) (s : State) :
    ExecOutcome (Instr.addsU df wd ws wt) s (exec (Instr.addsU df wd ws wt) s) := by
  rw [exec_addsU, opAddsU]
  cases df <;>
    exact .of_lanewise3 rfl rfl (fun h => nomatch h) rfl rfl

theorem outcome_aveS (df : Fmt) (wd ws wt : Reg) (s : State) :
    ExecOutcome (Instr.aveS df wd ws wt) s (exec (Instr.aveS df wd ws wt) s) := by
  rw [exec_aveS, opAveS]
  cases df <;>
    exact .of_lanewise3 rfl rfl (fun h => nomatch h) rfl rfl

theorem outcome_aveU (df : Fmt) (wd ws wt : Reg) (s : State) :
    ExecOutcome (Instr.aveU df wd ws wt) s (exec (Instr.aveU df wd ws wt) s) := by
  rw [exec_aveU, opAveU]
  cases df <;>
    exact .of_lanewise3 rfl rfl (fun h => nomatch h) rfl rfl

theorem outcome_averS (df : Fmt) (wd ws wt : Reg) (s : State) :
    ExecOutcome (Instr.averS df wd ws wt) s (exec (Instr.averS df wd ws wt) s) := by
  rw [exec_averS, opAverS]
  cases df <;>
    exact .of_lanewise3 rfl rfl (fun h => nomatch h) rfl rfl

theorem outcome_averU (df : Fmt) (wd ws wt : Reg) (s : State) :
    ExecOutcome (Instr.averU df wd ws wt) s (exec (Instr.averU df wd ws wt) s) := by
  rw [exec_averU, opAverU]
  cases df <;>
    exact .of_lanewise3 rfl rfl (fun h => nomatch h) rfl rfl

theorem outcome_subsS (df : Fmt) (wd ws wt : Reg) (s : State) :
    ExecOutcome (Instr.subsS df wd ws wt) s (exec (Instr.subsS df wd ws wt) s) := by
  rw [exec_subsS, opSubsS]
  cases df <;>
    exact .of_lanewise3 rfl rfl (fun h => nomatch h) rfl rfl

theorem outcome_subsU (df : Fmt) (wd ws wt : Reg) (s : State) :
    ExecOutcome (Instr.subsU df wd ws wt) s (exec (Instr.subsU df wd ws wt) s) := by
  rw [exec_subsU, opSubsU]
  cases df <;>
    exact .of_lanewise3 rfl rfl (fun h => nomatch h) rfl rfl

theorem outcome_subsusU (df : Fmt) (wd ws wt : Reg) (s : State) :
    ExecOutcome (Instr.subsusU df wd ws wt) s (exec (Instr.subsusU df wd ws wt) s) := by
  rw [exec_subsusU, opSubsusU]
  cases df <;>
    exact .of_lanewise3 rfl rfl (fun h => nomatch h) rfl rfl

theorem outcome_subsuuS (df : Fmt) (wd ws wt : Reg) (s : State) :
    ExecOutcome (Instr.subsuuS df wd ws wt) s (exec (Instr.subsuuS df wd ws wt) s) := by
  rw [exec_subsuuS, opSubsuuS]
  cases df <;>
    exact .of_lanewise3 rfl rfl (fun h => nomatch h) rfl rfl

theorem outcome_asubS (df : Fmt) (wd ws wt : Reg) (s : State) :
    ExecOutcome (Instr.asubS df wd ws wt) s (exec (Instr.asubS df wd ws wt) s) := by
  rw [exec_asubS, opAsubS]
  cases df <;>
    exact .of_lanewise3 rfl rfl (fun h => nomatch h) rfl rfl

theorem outcome_asubU (df : Fmt) (wd ws wt : Reg) (s : State) :
    ExecOutcome (Instr.asubU df wd ws wt) s (exec (Instr.asubU df wd ws wt) s) := by
  rw [exec_asubU, opAsubU]
  cases df <;>
    exact .of_lanewise3 rfl rfl (fun h => nomatch h) rfl rfl

theorem outcome_mulv (df : Fmt) (wd ws wt : Reg) (s : State) :
    ExecOutcome (Instr.mulv df wd ws wt) s (exec (Instr.mulv df wd ws wt) s) := by
  rw [exec_mulv, opMulv]
  cases df <;>
    exact .of_lanewise3 rfl rfl (fun h => nomatch h) rfl rfl

theorem outcome_maddv (df : Fmt) (wd ws wt : Reg) (s : State) :
    ExecOutcome (Instr.maddv df wd ws wt) s (exec (Instr.maddv df wd ws wt) s) := by
  rw [exec_maddv, opMaddv]
  cases df <;>
    exact .of_lanewise3 rfl rfl (fun h => nomatch h) rfl rfl

theorem outcome_msubv (df : Fmt) (wd ws wt : Reg) (s : State) :
    ExecOutcome (Instr.msubv df wd ws wt) s (exec (Instr.msubv df wd ws wt) s) := by
  rw [exec_msubv, opMsubv]
  cases df <;>
    exact .of_lanewise3 rfl rfl (fun h => nomatch h) rfl rfl

theorem outcome_divS (df : Fmt) (wd ws wt : Reg) (s : State) :
    ExecOutcome (Instr.divS df wd ws wt) s (exec (Instr.divS df wd ws wt) s) := by
  rw [exec_divS, opDivS]
  cases df <;>
    exact .of_lanewise3 rfl rfl (fun h => nomatch h) rfl rfl

theorem outcome_divU (df : Fmt) (wd ws wt : Reg) (s : State) :
    ExecOutcome (Instr.divU df wd ws wt) s (exec (Instr.divU df wd ws wt) s) := by
  rw [exec_divU, opDivU]
  cases df <;>
    exact .of_lanewise3 rfl rfl (fun h => nomatch h) rfl rfl

theorem outcome_modS (df : Fmt) (wd ws wt : Reg) (s : State) :
    ExecOutcome (Instr.modS df wd ws wt) s (exec (Instr.modS df wd ws wt) s) := by
  rw [exec_modS, opModS]
  cases df <;>
    exact .of_lanewise3 rfl rfl (fun h => nomatch h) rfl rfl

theorem outcome_modU (df : Fmt) (wd ws wt : Reg) (s : State) :
    ExecOutcome (Instr.modU df wd ws wt) s (exec (Instr.modU df wd ws wt) s) := by
  rw [exec_modU, opModU]
  cases df <;>
    exact .of_lanewise3 rfl rfl (fun h => nomatch h) rfl rfl

theorem outcome_dotpS (f : FmtHwd) (wd ws wt : Reg) (s : State) :
    ExecOutcome (Instr.dotpS f wd ws wt) s (exec (Instr.dotpS f wd ws wt) s) := by
  rw [exec_dotpS, opDotpS]
  cases f <;>
    exact .of_lanewise3 rfl rfl (fun h => nomatch h) rfl rfl

theorem outcome_dotpU (f : FmtHwd) (wd ws wt : Reg) (s : State) :
    ExecOutcome (Instr.dotpU f wd ws wt) s (exec (Instr.dotpU f wd ws wt) s) := by
  rw [exec_dotpU, opDotpU]
  cases f <;>
    exact .of_lanewise3 rfl rfl (fun h => nomatch h) rfl rfl

theorem outcome_dpaddS (f : FmtHwd) (wd ws wt : Reg) (s : State) :
    ExecOutcome (Instr.dpaddS f wd ws wt) s (exec (Instr.dpaddS f wd ws wt) s) := by
  rw [exec_dpaddS, opDpaddS]
  cases f <;>
    exact .of_lanewise3 rfl rfl (fun h => nomatch h) rfl rfl

theorem outcome_dpaddU (f : FmtHwd) (wd ws wt : Reg) (s : State) :
    ExecOutcome (Instr.dpaddU f wd ws wt) s (exec (Instr.dpaddU f wd ws wt) s) := by
  rw [exec_dpaddU, opDpaddU]
  cases f <;>
    exact .of_lanewise3 rfl rfl (fun h => nomatch h) rfl rfl

theorem outcome_dpsubS (f : FmtHwd) (wd ws wt : Reg) (s : State) :
    ExecOutcome (Instr.dpsubS f wd ws wt) s (exec (Instr.dpsubS f wd ws wt) s) := by
  rw [exec_dpsubS, opDpsubS]
  cases f <;>
    exact .of_lanewise3 rfl rfl (fun h => nomatch h) rfl rfl

theorem outcome_dpsubU (f : FmtHwd) (wd ws wt : Reg) (s : State) :
    ExecOutcome (Instr.dpsubU f wd ws wt) s (exec (Instr.dpsubU f wd ws wt) s) := by
  rw [exec_dpsubU, opDpsubU]
  cases f <;>
    exact .of_lanewise3 rfl rfl (fun h => nomatch h) rfl rfl

theorem outcome_sld (df : Fmt) (wd ws : Reg) (rt : Gpr) (s : State) :
    ExecOutcome (Instr.sld df wd ws rt) s (exec (Instr.sld df wd ws rt) s) := by
  rw [exec_sld, opSld]
  cases df <;>
    exact .of_staged rfl rfl (fun h => nomatch h) rfl rfl

theorem outcome_splat (df : Fmt) (wd ws : Reg) (rt : Gpr) (s : State) :
    ExecOutcome (Instr.splat df wd ws rt) s (exec (Instr.splat df wd ws rt) s) := by
  rw [exec_splat, opSplat]
  cases df <;>
    exact .of_broadcast rfl rfl (fun h => nomatch h) rfl rfl

theorem outcome_pckev (df : Fmt) (wd ws wt : Reg) (s : State) :
    ExecOutcome (Instr.pckev df wd ws wt) s (exec (Instr.pckev df wd ws wt) s) := by
  rw [exec_pckev, opPckev]
  cases df <;>
    exact .of_staged rfl rfl (fun h => nomatch h) rfl rfl

theorem outcome_pckod (df : Fmt) (wd ws wt : Reg) (s : State) :
    ExecOutcome (Instr.pckod df wd ws wt) s (exec (Instr.pckod df wd ws wt) s) := by
  rw [exec_pckod, opPckod]
  cases df <;>
    exact .of_staged rfl rfl (fun h => nomatch h) rfl rfl

theorem outcome_ilvl (df : Fmt) (wd ws wt : Reg) (s : State) :
    ExecOutcome (Instr.ilvl df wd ws wt) s (exec (Instr.ilvl df wd ws wt) s) := by
  rw [exec_ilvl, opIlvl]
  cases df <;>
    exact .of_staged rfl rfl (fun h => nomatch h) rfl rfl

theorem outcome_ilvr (df : Fmt) (wd ws wt : Reg) (s : State) :
    ExecOutcome (Instr.ilvr df wd ws wt) s (exec (Instr.ilvr df wd ws wt) s) := by
  rw [exec_ilvr, opIlvr]
  cases df <;>
    exact .of_staged rfl rfl (fun h => nomatch h) rfl rfl

theorem outcome_ilvev (df : Fmt) (wd ws wt : Reg) (s : State) :
    ExecOutcome (Instr.ilvev df wd ws wt) s (exec (Instr.ilvev df wd ws wt) s) := by
  rw [exec_ilvev, opIlvev]
  cases df <;>
    exact .of_staged rfl rfl (fun h => nomatch h) rfl rfl

theorem outcome_ilvod (df : Fmt) (wd ws wt : Reg) (s : State) :
    ExecOutcome (Instr.ilvod df wd ws wt) s (exec (Instr.ilvod df wd ws wt) s) := by
  rw [exec_ilvod, opIlvod]
  cases df <;>
    exact .of_staged rfl rfl (fun h => nomatch h) rfl rfl

theorem outcome_vshf (df : Fmt) (wd ws wt : Reg) (s : State) :
    ExecOutcome (Instr.vshf df wd ws wt) s (exec (Instr.vshf df wd ws wt) s) := by
  rw [exec_vshf, opVshf]
  cases df <;>
    exact .of_staged rfl rfl (fun h => nomatch h) rfl rfl

theorem outcome_srar (df : Fmt) (wd ws wt : Reg) (s : State) :
    ExecOutcome (Instr.srar df wd ws wt) s (exec (Instr.srar df wd ws wt) s) := by
  rw [exec_srar, opSrar]
  cases df <;>
    exact .of_lanewise3 rfl rfl (fun h => nomatch h) rfl rfl

theorem outcome_srlr (df : Fmt) (wd ws wt : Reg) (s : State) :
    ExecOutcome (Instr.srlr df wd ws wt) s (exec (Instr.srlr df wd ws wt) s) := by
  rw [exec_srlr, opSrlr]
  cases df <;>
    exact .of_lanewise3 rfl rfl (fun h => nomatch h) rfl rfl

theorem outcome_haddS (f : FmtHwd) (wd ws wt : Reg) (s : State) :
    ExecOutcome (Instr.haddS f wd ws wt) s (exec (Instr.haddS f wd ws wt) s) := by
  rw [exec_haddS, opHaddS]
  cases f <;>
    exact .of_lanewise3 rfl rfl (fun h => nomatch h) rfl rfl

theorem outcome_haddU (f : FmtHwd) (wd ws wt : Reg) (s : State) :
    ExecOutcome (Instr.haddU f wd ws wt) s (exec (Instr.haddU f wd ws wt) s) := by
  rw [exec_haddU, opHaddU]
  cases f <;>
    exact .of_lanewise3 rfl rfl (fun h => nomatch h) rfl rfl

theorem outcome_hsubS (f : FmtHwd) (wd ws wt : Reg) (s : State) :
    ExecOutcome (Instr.hsubS f wd ws wt) s (exec (Instr.hsubS f wd ws wt) s) := by
  rw [exec_hsubS, opHsubS]
  cases f <;>
    exact .of_lanewise3 rfl rfl (fun h => nomatch h) rfl rfl

theorem outcome_hsubU (f : FmtHwd) (wd ws wt : Reg) (s : State) :
    ExecOutcome (Instr.hsubU f wd ws wt) s (exec (Instr.hsubU f wd ws wt) s) := by
  rw [exec_hsubU, opHsubU]
  cases f <;>
    exact .of_lanewise3 rfl rfl (fun h => nomatch h) rfl rfl

theorem outcome_addvi (df : Fmt) (wd ws : Reg) (u5 : Nat) (s : State) :
    ExecOutcome (Instr.addvi df wd ws u5) s (exec (Instr.addvi df wd ws u5) s) := by
  rw [exec_addvi, opAddvi]
  cases df <;>
    exact .of_withImmediate rfl fun h => .of_lanewise2 h rfl (fun h => nomatch h) rfl rfl

theorem outcome_subvi (df : Fmt) (wd ws : Reg) (u5 : Nat) (s : State) :
    ExecOutcome (Instr.subvi df wd ws u5) s (exec (Instr.subvi df wd ws u5) s) := by
  rw [exec_subvi, opSubvi]
  cases df <;>
    exact .of_withImmediate rfl fun h => .of_lanewise2 h rfl (fun h => nomatch h) rfl rfl

theorem outcome_maxiS (df : Fmt) (wd ws : Reg) (s5 : Int) (s : State) :
    ExecOutcome (Instr.maxiS df wd ws s5) s (exec (Instr.maxiS df wd ws s5) s) := by
  rw [exec_maxiS, opMaxiS]
  cases df <;>
    exact .of_withImmediate rfl fun h => .of_lanewise2 h rfl (fun h => nomatch h) rfl rfl

theorem outcome_maxiU (df : Fmt) (wd ws : Reg) (u5 : Nat) (s : State) :
    ExecOutcome (Instr.maxiU df wd ws u5) s (exec (Instr.maxiU df wd ws u5) s) := by
  rw [exec_maxiU, opMaxiU]
  cases df <;>
    exact .of_withImmediate rfl fun h => .of_lanewise2 h rfl (fun h => nomatch h) rfl rfl

theorem outcome_miniS (df : Fmt) (wd ws : Reg) (s5 : Int) (s : State) :
    ExecOutcome (Instr.miniS df wd ws s5) s (exec (Instr.miniS df wd ws s5) s) := by
  rw [exec_miniS, opMiniS]
  cases df <;>
    exact .of_withImmediate rfl fun h => .of_lanewise2 h rfl (fun h => nomatch h) rfl rfl

theorem outcome_miniU (df : Fmt) (wd ws : Reg) (u5 : Nat) (s : State) :
    ExecOutcome (Instr.miniU df wd ws u5) s (exec (Instr.miniU df wd ws u5) s) := by
  rw [exec_miniU, opMiniU]
  cases df <;>
    exact .of_withImmediate rfl fun h => .of_lanewise2 h rfl (fun h => nomatch h) rfl rfl

theorem outcome_ceqi (df : Fmt) (wd ws : Reg) (s5 : Int) (s : State) :
    ExecOutcome (Instr.ceqi df wd ws s5) s (exec (Instr.ceqi df wd ws s5) s) := by
  rw [exec_ceqi, opCeqi]
  cases df <;>
    exact .of_withImmediate rfl fun h => .of_lanewise2 h rfl (fun h => nomatch h) rfl rfl

theorem outcome_cltiS (df : Fmt) (wd ws : Reg) (s5 : Int) (s : State) :
    ExecOutcome (Instr.cltiS df wd ws s5) s (exec (Instr.cltiS df wd ws s5) s) := by
  rw [exec_cltiS, opCltiS]
  cases df <;>
    exact .of_withImmediate rfl fun h => .of_lanewise2 h rfl (fun h => nomatch h) rfl rfl

theorem outcome_cltiU (df : Fmt) (wd ws : Reg) (u5 : Nat) (s : State) :
    ExecOutcome (Instr.cltiU df wd ws u5) s (exec (Instr.cltiU df wd ws u5) s) := by
  rw [exec_cltiU, opCltiU]
  cases df <;>
    exact .of_withImmediate rfl fun h => .of_lanewise2 h rfl (fun h => nomatch h) rfl rfl

theorem outcome_cleiS (df : Fmt) (wd ws : Reg) (s5 : Int) (s : State) :
    ExecOutcome (Instr.cleiS df wd ws s5) s (exec (Instr.cleiS df wd ws s5) s) := by
  rw [exec_cleiS, opCleiS]
  cases df <;>
    exact .of_withImmediate rfl fun h => .of_lanewise2 h rfl (fun h => nomatch h) rfl rfl

theorem outcome_cleiU (df : Fmt) (wd ws : Reg) (u5 : Nat) (s : State) :
    ExecOutcome (Instr.cleiU df wd ws u5) s (exec (Instr.cleiU df wd ws u5) s) := by
  rw [exec_cleiU, opCleiU]
  cases df <;>
    exact .of_withImmediate rfl fun h => .of_lanewise2 h rfl (fun h => nomatch h) rfl rfl

theorem outcome_ldi (df : Fmt) (wd : Reg) (s10 : Int) (s : State) :
    ExecOutcome (Instr.ldi df wd s10) s (exec (Instr.ldi df wd s10) s) := by
  rw [exec_ldi, opLdi]
  cases df <;>
    exact .of_withImmediate rfl fun h => .of_broadcast h rfl (fun h => nomatch h) rfl rfl

theorem outcome_slli (df : Fmt) (wd ws : Reg) (m : Nat) (s : State) :
    ExecOutcome (Instr.slli df wd ws m) s (exec (Instr.slli df wd ws m) s) := by
  rw [exec_slli, opSlli]
  cases df <;>
    exact .of_withImmediate rfl fun h => .of_lanewise2 h rfl (fun h => nomatch h) rfl rfl

theorem outcome_srai (df : Fmt) (wd ws : Reg) (m : Nat) (s : State) :
    ExecOutcome (Instr.srai df wd ws m) s (exec (Instr.srai df wd ws m) s) := by
  rw [exec_srai, opSrai]
  cases df <;>
    exact .of_withImmediate rfl fun h => .of_lanewise2 h rfl (fun h => nomatch h) rfl rfl

theorem outcome_srli (df : Fmt) (wd ws : Reg) (m : Nat) (s : State) :
    ExecOutcome (Instr.srli df wd ws m) s (exec (Instr.srli df wd ws m) s) := by
  rw [exec_srli, opSrli]
  cases df <;>
    exact .of_withImmediate rfl fun h => .of_lanewise2 h rfl (fun h => nomatch h) rfl rfl

theorem outcome_bclri (df : Fmt) (wd ws : Reg) (m : Nat) (s : State) :
    ExecOutcome (Instr.bclri df wd ws m) s (exec (Instr.bclri df wd ws m) s) := by
  rw [exec_bclri, opBclri]
  cases df <;>
    exact .of_withImmediate rfl fun h => .of_lanewise2 h rfl (fun h => nomatch h) rfl rfl

theorem outcome_bseti (df : Fmt) (wd ws : Reg) (m : Nat) (s : State) :
    ExecOutcome (Instr.bseti df wd ws m) s (exec (Instr.bseti df wd ws m) s) := by
  rw [exec_bseti, opBseti]
  cases df <;>
    exact .of_withImmediate rfl fun h => .of_lanewise2 h rfl (fun h => nomatch h) rfl rfl

theorem outcome_bnegi (df : Fmt) (wd ws : Reg) (m : Nat) (s : State) :
    ExecOutcome (Instr.bnegi df wd ws m) s (exec (Instr.bnegi df wd ws m) s) := by
  rw [exec_bnegi, opBnegi]
  cases df <;>
    exact .of_withImmediate rfl fun h => .of_lanewise2 h rfl (fun h => nomatch h) rfl rfl

theorem outcome_binsli (df : Fmt) (wd ws : Reg) (m : Nat) (s : State) :
    ExecOutcome (Instr.binsli df wd ws m) s (exec (Instr.binsli df wd ws m) s) := by
  rw [exec_binsli, opBinsli]
  cases df <;>
    exact .of_withImmediate rfl fun h => .of_lanewise2 h rfl (fun h => nomatch h) rfl rfl

theorem outcome_binsri (df : Fmt) (wd ws : Reg) (m : Nat) (s : State) :
    ExecOutcome (Instr.binsri df wd ws m) s (exec (Instr.binsri df wd ws m) s) := by
  rw [exec_binsri, opBinsri]
  cases df <;>
    exact .of_withImmediate rfl fun h => .of_lanewise2 h rfl (fun h => nomatch h) rfl rfl

theorem outcome_satS (df : Fmt) (wd ws : Reg) (m : Nat) (s : State) :
    ExecOutcome (Instr.satS df wd ws m) s (exec (Instr.satS df wd ws m) s) := by
  rw [exec_satS, opSatS]
  cases df <;>
    exact .of_withImmediate rfl fun h => .of_lanewise2 h rfl (fun h => nomatch h) rfl rfl

theorem outcome_satU (df : Fmt) (wd ws : Reg) (m : Nat) (s : State) :
    ExecOutcome (Instr.satU df wd ws m) s (exec (Instr.satU df wd ws m) s) := by
  rw [exec_satU, opSatU]
  cases df <;>
    exact .of_withImmediate rfl fun h => .of_lanewise2 h rfl (fun h => nomatch h) rfl rfl

theorem outcome_srari (df : Fmt) (wd ws : Reg) (m : Nat) (s : State) :
    ExecOutcome (Instr.srari df wd ws m) s (exec (Instr.srari df wd ws m) s) := by
  rw [exec_srari, opSrari]
  cases df <;>
    exact .of_withImmediate rfl fun h => .of_lanewise2 h rfl (fun h => nomatch h) rfl rfl

theorem outcome_srlri (df : Fmt) (wd ws : Reg) (m : Nat) (s : State) :
    ExecOutcome (Instr.srlri df wd ws m) s (exec (Instr.srlri df wd ws m) s) := by
  rw [exec_srlri, opSrlri]
  cases df <;>
    exact .of_withImmediate rfl fun h => .of_lanewise2 h rfl (fun h => nomatch h) rfl rfl

theorem outcome_andi (wd ws : Reg) (i8 : Nat) (s : State) :
    ExecOutcome (.andiB wd ws i8) s (exec (.andiB wd ws i8) s) := by
  rw [exec_andi, opAndi]
  exact .of_withImmediate rfl fun h => .of_lanewise2 h rfl (fun h => nomatch h) rfl rfl

theorem outcome_ori (wd ws : Reg) (i8 : Nat) (s : State) :
    ExecOutcome (.oriB wd ws i8) s (exec (.oriB wd ws i8) s) := by
  rw [exec_ori, opOri]
  exact .of_withImmediate rfl fun h => .of_lanewise2 h rfl (fun h => nomatch h) rfl rfl

theorem outcome_nori (wd ws : Reg) (i8 : Nat) (s : State) :
    ExecOutcome (.noriB wd ws i8) s (exec (.noriB wd ws i8) s) := by
  rw [exec_nori, opNori]
  exact .of_withImmediate rfl fun h => .of_lanewise2 h rfl (fun h => nomatch h) rfl rfl

theorem outcome_xori (wd ws : Reg) (i8 : Nat) (s : State) :
    ExecOutcome (.xoriB wd ws i8) s (exec (.xoriB wd ws i8) s) := by
  rw [exec_xori, opXori]
  exact .of_withImmediate rfl fun h => .of_lanewise2 h rfl (fun h => nomatch h) rfl rfl

theorem outcome_bmnzi (wd ws : Reg) (i8 : Nat) (s : State) :
    ExecOutcome (.bmnziB wd ws i8) s (exec (.bmnziB wd ws i8) s) := by
  rw [exec_bmnzi, opBmnzi]
  exact .of_withImmediate rfl fun h => .of_lanewise2 h rfl (fun h => nomatch h) rfl rfl

theorem outcome_bmzi (wd ws : Reg) (i8 : Nat) (s : State) :
    ExecOutcome (.bmziB wd ws i8) s (exec (.bmziB wd ws i8) s) := by
  rw [exec_bmzi, opBmzi]
  exact .of_withImmediate rfl fun h => .of_lanewise2 h rfl (fun h => nomatch h) rfl rfl

theorem outcome_bseli (wd ws : Reg) (i8 : Nat) (s : State) :
    ExecOutcome (.bseliB wd ws i8) s (exec (.bseliB wd ws i8) s) := by
  rw [exec_bseli, opBseli]
  exact .of_withImmediate rfl fun h => .of_lanewise2 h rfl (fun h => nomatch h) rfl rfl

theorem outcome_shf (f : FmtBhw) (wd ws : Reg) (i8 : Nat) (s : State) :
    ExecOutcome (Instr.shf f wd ws i8) s (exec (Instr.shf f wd ws i8) s) := by
  rw [exec_shf, opShf]
  cases f <;>
    exact .of_withImmediate rfl fun h => .of_staged h rfl (fun h => nomatch h) rfl rfl

theorem outcome_sldi (df : Fmt) (wd ws : Reg) (n : Nat) (s : State) :
    ExecOutcome (Instr.sldi df wd ws n) s (exec (Instr.sldi df wd ws n) s) := by
  rw [exec_sldi, opSldi]
  cases df <;>
    exact .of_checkIndex rfl (fun h => nomatch h) fun h => .of_staged rfl h.2 (fun h => nomatch h) rfl rfl

theorem outcome_splati (df : Fmt) (wd ws : Reg) (n : Nat) (s : State) :
    ExecOutcome (Instr.splati df wd ws n) s (exec (Instr.splati df wd ws n) s) := by
  rw [exec_splati, opSplati]
  cases df <;>
    exact .of_checkIndex rfl (fun h => nomatch h) fun h => .of_broadcast rfl h.2 (fun h => nomatch h) rfl rfl

theorem outcome_copyS (df : Fmt) (rd : Gpr) (ws : Reg) (n : Nat) (s : State) :
    ExecOutcome (Instr.copyS df rd ws n) s (exec (Instr.copyS df rd ws n) s) := by
  cases df
  · show ExecOutcome _ s (opCopyS .b rd ws n s)
    unfold opCopyS
    exact .of_checkIndex rfl (fun h => nomatch h) fun h => .of_driveGprOut rfl h.2 (fun h => nomatch h) rfl rfl
  · show ExecOutcome _ s (opCopyS .h rd ws n s)
    unfold opCopyS
    exact .of_checkIndex rfl (fun h => nomatch h) fun h => .of_driveGprOut rfl h.2 (fun h => nomatch h) rfl rfl
  · show ExecOutcome _ s (opCopyS .w rd ws n s)
    unfold opCopyS
    exact .of_checkIndex rfl (fun h => nomatch h) fun h => .of_driveGprOut rfl h.2 (fun h => nomatch h) rfl rfl
  · show ExecOutcome _ s (requireGprLen64 s (opCopyS .d rd ws n s))
    unfold opCopyS
    exact .of_requireGprLen64 rfl fun hg =>
      .of_checkIndex rfl (fun _ => hg) fun h => .of_driveGprOut rfl h.2 (fun _ => hg) rfl rfl

theorem outcome_copyU (f : FmtBhw) (rd : Gpr) (ws : Reg) (n : Nat) (s : State) :
    ExecOutcome (Instr.copyU f rd ws n) s (exec (Instr.copyU f rd ws n) s) := by
  cases f
  · show ExecOutcome _ s (opCopyU .b rd ws n s)
    unfold opCopyU
    exact .of_checkIndex rfl (fun h => nomatch h) fun h => .of_driveGprOut rfl h.2 (fun h => nomatch h) rfl rfl
  · show ExecOutcome _ s (opCopyU .h rd ws n s)
    unfold opCopyU
    exact .of_checkIndex rfl (fun h => nomatch h) fun h => .of_driveGprOut rfl h.2 (fun h => nomatch h) rfl rfl
  · show ExecOutcome _ s (requireGprLen64 s (opCopyU .w rd ws n s))
    unfold opCopyU
    exact .of_requireGprLen64 rfl fun hg =>
      .of_checkIndex rfl (fun _ => hg) fun h => .of_driveGprOut rfl h.2 (fun _ => hg) rfl rfl

theorem outcome_insert (df : Fmt) (wd : Reg) (rs : Gpr) (n : Nat) (s : State) :
    ExecOutcome (Instr.insert df wd rs n) s (exec (Instr.insert df wd rs n) s) := by
  cases df
  · show ExecOutcome _ s (opInsert .b wd rs n s)
    unfold opInsert
    exact .of_checkIndex rfl (fun h => nomatch h) fun h => .of_oneLane rfl h (fun h => nomatch h) rfl rfl
  · show ExecOutcome _ s (opInsert .h wd rs n s)
    unfold opInsert
    exact .of_checkIndex rfl (fun h => nomatch h) fun h => .of_oneLane rfl h (fun h => nomatch h) rfl rfl
  · show ExecOutcome _ s (opInsert .w wd rs n s)
    unfold opInsert
    exact .of_checkIndex rfl (fun h => nomatch h) fun h => .of_oneLane rfl h (fun h => nomatch h) rfl rfl
  · show ExecOutcome _ s (requireGprLen64 s (opInsert .d wd rs n s))
    unfold opInsert
    exact .of_requireGprLen64 rfl fun hg =>
      .of_checkIndex rfl (fun _ => hg) fun h => .of_oneLane rfl h (fun _ => hg) rfl rfl

theorem outcome_insve (df : Fmt) (wd ws : Reg) (n : Nat) (s : State) :
    ExecOutcome (Instr.insve df wd ws n) s (exec (Instr.insve df wd ws n) s) := by
  rw [exec_insve, opInsve]
  cases df <;>
    exact .of_checkIndex rfl (fun h => nomatch h) fun h => .of_oneLane rfl h (fun h => nomatch h) rfl rfl

theorem outcome_move (wd ws : Reg) (s : State) :
    ExecOutcome (.moveV wd ws) s (exec (.moveV wd ws) s) := by
  rw [exec_move, opMove]
  exact .of_whole rfl rfl (fun h => nomatch h) rfl rfl

theorem outcome_and (wd ws wt : Reg) (s : State) :
    ExecOutcome (.andV wd ws wt) s (exec (.andV wd ws wt) s) := by
  rw [exec_and, opAnd]
  exact .of_whole rfl rfl (fun h => nomatch h) rfl rfl

theorem outcome_or (wd ws wt : Reg) (s : State) :
    ExecOutcome (.orV wd ws wt) s (exec (.orV wd ws wt) s) := by
  rw [exec_or, opOr]
  exact .of_whole rfl rfl (fun h => nomatch h) rfl rfl

theorem outcome_nor (wd ws wt : Reg) (s : State) :
    ExecOutcome (.norV wd ws wt) s (exec (.norV wd ws wt) s) := by
  rw [exec_nor, opNor]
  exact .of_whole rfl rfl (fun h => nomatch h) rfl rfl

theorem outcome_xor (wd ws wt : Reg) (s : State) :
    ExecOutcome (.xorV wd ws wt) s (exec (.xorV wd ws wt) s) := by
  rw [exec_xor, opXor]
  exact .of_whole rfl rfl (fun h => nomatch h) rfl rfl

theorem outcome_bmnz (wd ws wt : Reg) (s : State) :
    ExecOutcome (.bmnzV wd ws wt) s (exec (.bmnzV wd ws wt) s) := by
  rw [exec_bmnz, opBmnz]
  exact .of_whole rfl rfl (fun h => nomatch h) rfl rfl

theorem outcome_bmz (wd ws wt : Reg) (s : State) :
    ExecOutcome (.bmzV wd ws wt) s (exec (.bmzV wd ws wt) s) := by
  rw [exec_bmz, opBmz]
  exact .of_whole rfl rfl (fun h => nomatch h) rfl rfl

theorem outcome_bsel (wd ws wt : Reg) (s : State) :
    ExecOutcome (.bselV wd ws wt) s (exec (.bselV wd ws wt) s) := by
  rw [exec_bsel, opBsel]
  exact .of_whole rfl rfl (fun h => nomatch h) rfl rfl

theorem outcome_fill (df : Fmt) (wd : Reg) (rs : Gpr) (s : State) :
    ExecOutcome (Instr.fill df wd rs) s (exec (Instr.fill df wd rs) s) := by
  cases df
  · show ExecOutcome _ s (opFill .b wd rs s)
    unfold opFill
    exact .of_broadcast rfl rfl (fun h => nomatch h) rfl rfl
  · show ExecOutcome _ s (opFill .h wd rs s)
    unfold opFill
    exact .of_broadcast rfl rfl (fun h => nomatch h) rfl rfl
  · show ExecOutcome _ s (opFill .w wd rs s)
    unfold opFill
    exact .of_broadcast rfl rfl (fun h => nomatch h) rfl rfl
  · show ExecOutcome _ s (requireGprLen64 s (opFill .d wd rs s))
    unfold opFill
    exact .of_requireGprLen64 rfl fun hg => .of_broadcast rfl rfl (fun _ => hg) rfl rfl

theorem outcome_pcnt (df : Fmt) (wd ws : Reg) (s : State) :
    ExecOutcome (Instr.pcnt df wd ws) s (exec (Instr.pcnt df wd ws) s) := by
  rw [exec_pcnt, opPcnt]
  cases df <;>
    exact .of_lanewise2 rfl rfl (fun h => nomatch h) rfl rfl

theorem outcome_nloc (df : Fmt) (wd ws : Reg) (s : State) :
    ExecOutcome (Instr.nloc df wd ws) s (exec (Instr.nloc df wd ws) s) := by
  rw [exec_nloc, opNloc]
  cases df <;>
    exact .of_lanewise2 rfl rfl (fun h => nomatch h) rfl rfl

theorem outcome_nlzc (df : Fmt) (wd ws : Reg) (s : State) :
    ExecOutcome (Instr.nlzc df wd ws) s (exec (Instr.nlzc df wd ws) s) := by
  rw [exec_nlzc, opNlzc]
  cases df <;>
    exact .of_lanewise2 rfl rfl (fun h => nomatch h) rfl rfl

theorem outcome_mulQ (f : FmtHw) (wd ws wt : Reg) (s : State) :
    ExecOutcome (Instr.mulQ f wd ws wt) s (exec (Instr.mulQ f wd ws wt) s) := by
  rw [exec_mulQ, opMulQ]
  cases f <;>
    exact .of_lanewise3 rfl rfl (fun h => nomatch h) rfl rfl

theorem outcome_maddQ (f : FmtHw) (wd ws wt : Reg) (s : State) :
    ExecOutcome (Instr.maddQ f wd ws wt) s (exec (Instr.maddQ f wd ws wt) s) := by
  rw [exec_maddQ, opMaddQ]
  cases f <;>
    exact .of_lanewise3 rfl rfl (fun h => nomatch h) rfl rfl

theorem outcome_msubQ (f : FmtHw) (wd ws wt : Reg) (s : State) :
    ExecOutcome (Instr.msubQ f wd ws wt) s (exec (Instr.msubQ f wd ws wt) s) := by
  rw [exec_msubQ, opMsubQ]
  cases f <;>
    exact .of_lanewise3 rfl rfl (fun h => nomatch h) rfl rfl

theorem outcome_mulrQ (f : FmtHw) (wd ws wt : Reg) (s : State) :
    ExecOutcome (Instr.mulrQ f wd ws wt) s (exec (Instr.mulrQ f wd ws wt) s) := by
  rw [exec_mulrQ, opMulrQ]
  cases f <;>
    exact .of_lanewise3 rfl rfl (fun h => nomatch h) rfl rfl

theorem outcome_maddrQ (f : FmtHw) (wd ws wt : Reg) (s : State) :
    ExecOutcome (Instr.maddrQ f wd ws wt) s (exec (Instr.maddrQ f wd ws wt) s) := by
  rw [exec_maddrQ, opMaddrQ]
  cases f <;>
    exact .of_lanewise3 rfl rfl (fun h => nomatch h) rfl rfl

theorem outcome_msubrQ (f : FmtHw) (wd ws wt : Reg) (s : State) :
    ExecOutcome (Instr.msubrQ f wd ws wt) s (exec (Instr.msubrQ f wd ws wt) s) := by
  rw [exec_msubrQ, opMsubrQ]
  cases f <;>
    exact .of_lanewise3 rfl rfl (fun h => nomatch h) rfl rfl

/-- What `exec` can do, for every instruction and state. -/
theorem exec_outcome (i : Instr) (s : State) : ExecOutcome i s (exec i s) := by
  cases i
  case sllB => exact outcome_sll .b ..
  case sllH => exact outcome_sll .h ..
  case sllW => exact outcome_sll .w ..
  case sllD => exact outcome_sll .d ..
  case sraB => exact outcome_sra .b ..
  case sraH => exact outcome_sra .h ..
  case sraW => exact outcome_sra .w ..
  case sraD => exact outcome_sra .d ..
  case srlB => exact outcome_srl .b ..
  case srlH => exact outcome_srl .h ..
  case srlW => exact outcome_srl .w ..
  case srlD => exact outcome_srl .d ..
  case bclrB => exact outcome_bclr .b ..
  case bclrH => exact outcome_bclr .h ..
  case bclrW => exact outcome_bclr .w ..
  case bclrD => exact outcome_bclr .d ..
  case bsetB => exact outcome_bset .b ..
  case bsetH => exact outcome_bset .h ..
  case bsetW => exact outcome_bset .w ..
  case bsetD => exact outcome_bset .d ..
  case bnegB => exact outcome_bneg .b ..
  case bnegH => exact outcome_bneg .h ..
  case bnegW => exact outcome_bneg .w ..
  case bnegD => exact outcome_bneg .d ..
  case binslB => exact outcome_binsl .b ..
  case binslH => exact outcome_binsl .h ..
  case binslW => exact outcome_binsl .w ..
  case binslD => exact outcome_binsl .d ..
  case binsrB => exact outcome_binsr .b ..
  case binsrH => exact outcome_binsr .h ..
  case binsrW => exact outcome_binsr .w ..
  case binsrD => exact outcome_binsr .d ..
  case addvB => exact outcome_addv .b ..
  case addvH => exact outcome_addv .h ..
  case addvW => exact outcome_addv .w ..
  case addvD => exact outcome_addv .d ..
  case subvB => exact outcome_subv .b ..
  case subvH => exact outcome_subv .h ..
  case subvW => exact outcome_subv .w ..
  case subvD => exact outcome_subv .d ..
  case maxSB => exact outcome_maxS .b ..
  case maxSH => exact outcome_maxS .h ..
  case maxSW => exact outcome_maxS .w ..
  case maxSD => exact outcome_maxS .d ..
  case maxUB => exact outcome_maxU .b ..
  case maxUH => exact outcome_maxU .h ..
  case maxUW => exact outcome_maxU .w ..
  case maxUD => exact outcome_maxU .d ..
  case minSB => exact outcome_minS .b ..
  case minSH => exact outcome_minS .h ..
  case minSW => exact outcome_minS .w ..
  case minSD => exact outcome_minS .d ..
  case minUB => exact outcome_minU .b ..
  case minUH => exact outcome_minU .h ..
  case minUW => exact outcome_minU .w ..
  case minUD => exact outcome_minU .d ..
  case maxAB => exact outcome_maxA .b ..
  case maxAH => exact outcome_maxA .h ..
  case maxAW => exact outcome_maxA .w ..
  case maxAD => exact outcome_maxA .d ..
  case minAB => exact outcome_minA .b ..
  case minAH => exact outcome_minA .h ..
  case minAW => exact outcome_minA .w ..
  case minAD => exact outcome_minA .d ..
  case ceqB => exact outcome_ceq .b ..
  case ceqH => exact outcome_ceq .h ..
  case ceqW => exact outcome_ceq .w ..
  case ceqD => exact outcome_ceq .d ..
  case cltSB => exact outcome_cltS .b ..
  case cltSH => exact outcome_cltS .h ..
  case cltSW => exact outcome_cltS .w ..
  case cltSD => exact outcome_cltS .d ..
  case cltUB => exact outcome_cltU .b ..
  case cltUH => exact outcome_cltU .h ..
  case cltUW => exact outcome_cltU .w ..
  case cltUD => exact outcome_cltU .d ..
  case cleSB => exact outcome_cleS .b ..
  case cleSH => exact outcome_cleS .h ..
  case cleSW => exact outcome_cleS .w ..
  case cleSD => exact outcome_cleS .d ..
  case cleUB => exact outcome_cleU .b ..
  case cleUH => exact outcome_cleU .h ..
  case cleUW => exact outcome_cleU .w ..
  case cleUD => exact outcome_cleU .d ..
  case addAB => exact outcome_addA .b ..
  case addAH => exact outcome_addA .h ..
  case addAW => exact outcome_addA .w ..
  case addAD => exact outcome_addA .d ..
  case addsAB => exact outcome_addsA .b ..
  case addsAH => exact outcome_addsA .h ..
  case addsAW => exact outcome_addsA .w ..
  case addsAD => exact outcome_addsA .d ..
  case addsSB => exact outcome_addsS .b ..
  case addsSH => exact outcome_addsS .h ..
  case addsSW => exact outcome_addsS .w ..
  case addsSD => exact outcome_addsS .d ..
  case addsUB => exact outcome_addsU .b ..
  case addsUH => exact outcome_addsU .h ..
  case addsUW => exact outcome_addsU .w ..
  case addsUD => exact outcome_addsU .d ..
  case aveSB => exact outcome_aveS .b ..
  case aveSH => exact outcome_aveS .h ..
  case aveSW => exact outcome_aveS .w ..
  case aveSD => exact outcome_aveS .d ..
  case aveUB => exact outcome_aveU .b ..
  case aveUH => exact outcome_aveU .h ..
  case aveUW => exact outcome_aveU .w ..
  case aveUD => exact outcome_aveU .d ..
  case averSB => exact outcome_averS .b ..
  case averSH => exact outcome_averS .h ..
  case averSW => exact outcome_averS .w ..
  case averSD => exact outcome_averS .d ..
  case averUB => exact outcome_averU .b ..
  case averUH => exact outcome_averU .h ..
  case averUW => exact outcome_averU .w ..
  case averUD => exact outcome_averU .d ..
  case subsSB => exact outcome_subsS .b ..
  case subsSH => exact outcome_subsS .h ..
  case subsSW => exact outcome_subsS .w ..
  case subsSD => exact outcome_subsS .d ..
  case subsUB => exact outcome_subsU .b ..
  case subsUH => exact outcome_subsU .h ..
  case subsUW => exact outcome_subsU .w ..
  case subsUD => exact outcome_subsU .d ..
  case subsusUB => exact outcome_subsusU .b ..
  case subsusUH => exact outcome_subsusU .h ..
  case subsusUW => exact outcome_subsusU .w ..
  case subsusUD => exact outcome_subsusU .d ..
  case subsuuSB => exact outcome_subsuuS .b ..
  case subsuuSH => exact outcome_subsuuS .h ..
  case subsuuSW => exact outcome_subsuuS .w ..
  case subsuuSD => exact outcome_subsuuS .d ..
  case asubSB => exact outcome_asubS .b ..
  case asubSH => exact outcome_asubS .h ..
  case asubSW => exact outcome_asubS .w ..
  case asubSD => exact outcome_asubS .d ..
  case asubUB => exact outcome_asubU .b ..
  case asubUH => exact outcome_asubU .h ..
  case asubUW => exact outcome_asubU .w ..
  case asubUD => exact outcome_asubU .d ..
  case mulvB => exact outcome_mulv .b ..
  case mulvH => exact outcome_mulv .h ..
  case mulvW => exact outcome_mulv .w ..
  case mulvD => exact outcome_mulv .d ..
  case maddvB => exact outcome_maddv .b ..
  case maddvH => exact outcome_maddv .h ..
  case maddvW => exact outcome_maddv .w ..
  case maddvD => exact outcome_maddv .d ..
  case msubvB => exact outcome_msubv .b ..
  case msubvH => exact outcome_msubv .h ..
  case msubvW => exact outcome_msubv .w ..
  case msubvD => exact outcome_msubv .d ..
  case divSB => exact outcome_divS .b ..
  case divSH => exact outcome_divS .h ..
  case divSW => exact outcome_divS .w ..
  case divSD => exact outcome_divS .d ..
  case divUB => exact outcome_divU .b ..
  case divUH => exact outcome_divU .h ..
  case divUW => exact outcome_divU .w ..
  case divUD => exact outcome_divU .d ..
  case modSB => exact outcome_modS .b ..
  case modSH => exact outcome_modS .h ..
  case modSW => exact outcome_modS .w ..
  case modSD => exact outcome_modS .d ..
  case modUB => exact outcome_modU .b ..
  case modUH => exact outcome_modU .h ..
  case modUW => exact outcome_modU .w ..
  case modUD => exact outcome_modU .d ..
  case dotpSH => exact outcome_dotpS .h ..
  case dotpSW => exact outcome_dotpS .w ..
  case dotpSD => exact outcome_dotpS .d ..
  case dotpUH => exact outcome_dotpU .h ..
  case dotpUW => exact outcome_dotpU .w ..
  case dotpUD => exact outcome_dotpU .d ..
  case dpaddSH => exact outcome_dpaddS .h ..
  case dpaddSW => exact outcome_dpaddS .w ..
  case dpaddSD => exact outcome_dpaddS .d ..
  case dpaddUH => exact outcome_dpaddU .h ..
  case dpaddUW => exact outcome_dpaddU .w ..
  case dpaddUD => exact outcome_dpaddU .d ..
  case dpsubSH => exact outcome_dpsubS .h ..
  case dpsubSW => exact outcome_dpsubS .w ..
  case dpsubSD => exact outcome_dpsubS .d ..
  case dpsubUH => exact outcome_dpsubU .h ..
  case dpsubUW => exact outcome_dpsubU .w ..
  case dpsubUD => exact outcome_dpsubU .d ..
  case sldB => exact outcome_sld .b ..
  case sldH => exact outcome_sld .h ..
  case sldW => exact outcome_sld .w ..
  case sldD => exact outcome_sld .d ..
  case splatB => exact outcome_splat .b ..
  case splatH => exact outcome_splat .h ..
  case splatW => exact outcome_splat .w ..
  case splatD => exact outcome_splat .d ..
  case pckevB => exact outcome_pckev .b ..
  case pckevH => exact outcome_pckev .h ..
  case pckevW => exact outcome_pckev .w ..
  case pckevD => exact outcome_pckev .d ..
  case pckodB => exact outcome_pckod .b ..
  case pckodH => exact outcome_pckod .h ..
  case pckodW => exact outcome_pckod .w ..
  case pckodD => exact outcome_pckod .d ..
  case ilvlB => exact outcome_ilvl .b ..
  case ilvlH => exact outcome_ilvl .h ..
  case ilvlW => exact outcome_ilvl .w ..
  case ilvlD => exact outcome_ilvl .d ..
  case ilvrB => exact outcome_ilvr .b ..
  case ilvrH => exact outcome_ilvr .h ..
  case ilvrW => exact outcome_ilvr .w ..
  case ilvrD => exact outcome_ilvr .d ..
  case ilvevB => exact outcome_ilvev .b ..
  case ilvevH => exact outcome_ilvev .h ..
  case ilvevW => exact outcome_ilvev .w ..
  case ilvevD => exact outcome_ilvev .d ..
  case ilvodB => exact outcome_ilvod .b ..
  case ilvodH => exact outcome_ilvod .h ..
  case ilvodW => exact outcome_ilvod .w ..
  case ilvodD => exact outcome_ilvod .d ..
  case vshfB => exact outcome_vshf .b ..
  case vshfH => exact outcome_vshf .h ..
  case vshfW => exact outcome_vshf .w ..
  case vshfD => exact outcome_vshf .d ..
  case srarB => exact outcome_srar .b ..
  case srarH => exact outcome_srar .h ..
  case srarW => exact outcome_srar .w ..
  case srarD => exact outcome_srar .d ..
  case srlrB => exact outcome_srlr .b ..
  case srlrH => exact outcome_srlr .h ..
  case srlrW => exact outcome_srlr .w ..
  case srlrD => exact outcome_srlr .d ..
  case haddSH => exact outcome_haddS .h ..
  case haddSW => exact outcome_haddS .w ..
  case haddSD => exact outcome_haddS .d ..
  case haddUH => exact outcome_haddU .h ..
  case haddUW => exact outcome_haddU .w ..
  case haddUD => exact outcome_haddU .d ..
  case hsubSH => exact outcome_hsubS .h ..
  case hsubSW => exact outcome_hsubS .w ..
  case hsubSD => exact outcome_hsubS .d ..
  case hsubUH => exact outcome_hsubU .h ..
  case hsubUW => exact outcome_hsubU .w ..
  case hsubUD => exact outcome_hsubU .d ..
  case addviB => exact outcome_addvi .b ..
  case addviH => exact outcome_addvi .h ..
  case addviW => exact outcome_addvi .w ..
  case addviD => exact outcome_addvi .d ..
  case subviB => exact outcome_subvi .b ..
  case subviH => exact outcome_subvi .h ..
  case subviW => exact outcome_subvi .w ..
  case subviD => exact outcome_subvi .d ..
  case maxiSB => exact outcome_maxiS .b ..
  case maxiSH => exact outcome_maxiS .h ..
  case maxiSW => exact outcome_maxiS .w ..
  case maxiSD => exact outcome_maxiS .d ..
  case maxiUB => exact outcome_maxiU .b ..
  case maxiUH => exact outcome_maxiU .h ..
  case maxiUW => exact outcome_maxiU .w ..
  case maxiUD => exact outcome_maxiU .d ..
  case miniSB => exact outcome_miniS .b ..
  case miniSH => exact outcome_miniS .h ..
  case miniSW => exact outcome_miniS .w ..
  case miniSD => exact outcome_miniS .d ..
  case miniUB => exact outcome_miniU .b ..
  case miniUH => exact outcome_miniU .h ..
  case miniUW => exact outcome_miniU .w ..
  case miniUD => exact outcome_miniU .d ..
  case ceqiB => exact outcome_ceqi .b ..
  case ceqiH => exact outcome_ceqi .h ..
  case ceqiW => exact outcome_ceqi .w ..
  case ceqiD => exact outcome_ceqi .d ..
  case cltiSB => exact outcome_cltiS .b ..
  case cltiSH => exact outcome_cltiS .h ..
  case cltiSW => exact outcome_cltiS .w ..
  case cltiSD => exact outcome_cltiS .d ..
  case cltiUB => exact outcome_cltiU .b ..
  case cltiUH => exact outcome_cltiU .h ..
  case cltiUW => exact outcome_cltiU .w ..
  case cltiUD => exact outcome_cltiU .d ..
  case cleiSB => exact outcome_cleiS .b ..
  case cleiSH => exact outcome_cleiS .h ..
  case cleiSW => exact outcome_cleiS .w ..
  case cleiSD => exact outcome_cleiS .d ..
  case cleiUB => exact outcome_cleiU .b ..
  case cleiUH => exact outcome_cleiU .h ..
  case cleiUW => exact outcome_cleiU .w ..
  case cleiUD => exact outcome_cleiU .d ..
  case ldiB => exact outcome_ldi .b ..
  case ldiH => exact outcome_ldi .h ..
  case ldiW => exact outcome_ldi .w ..
  case ldiD => exact outcome_ldi .d ..
  case slliB => exact outcome_slli .b ..
  case slliH => exact outcome_slli .h ..
  case slliW => exact outcome_slli .w ..
  case slliD => exact outcome_slli .d ..
  case sraiB => exact outcome_srai .b ..
  case sraiH => exact outcome_srai .h ..
  case sraiW => exact outcome_srai .w ..
  case sraiD => exact outcome_srai .d ..
  case srliB => exact outcome_srli .b ..
  case srliH => exact outcome_srli .h ..
  case srliW => exact outcome_srli .w ..
  case srliD => exact outcome_srli .d ..
  case bclriB => exact outcome_bclri .b ..
  case bclriH => exact outcome_bclri .h ..
  case bclriW => exact outcome_bclri .w ..
  case bclriD => exact outcome_bclri .d ..
  case bsetiB => exact outcome_bseti .b ..
  case bsetiH => exact outcome_bseti .h ..
  case bsetiW => exact outcome_bseti .w ..
  case bsetiD => exact outcome_bseti .d ..
  case bnegiB => exact outcome_bnegi .b ..
  case bnegiH => exact outcome_bnegi .h ..
  case bnegiW => exact outcome_bnegi .w ..
  case bnegiD => exact outcome_bnegi .d ..
  case binsliB => exact outcome_binsli .b ..
  case binsliH => exact outcome_binsli .h ..
  case binsliW => exact outcome_binsli .w ..
  case binsliD => exact outcome_binsli .d ..
  case binsriB => exact outcome_binsri .b ..
  case binsriH => exact outcome_binsri .h ..
  case binsriW => exact outcome_binsri .w ..
  case binsriD => exact outcome_binsri .d ..
  case satSB => exact outcome_satS .b ..
  case satSH => exact outcome_satS .h ..
  case satSW => exact outcome_satS .w ..
  case satSD => exact outcome_satS .d ..
  case satUB => exact outcome_satU .b ..
  case satUH => exact outcome_satU .h ..
  case satUW => exact outcome_satU .w ..
  case satUD => exact outcome_satU .d ..
  case srariB => exact outcome_srari .b ..
  case srariH => exact outcome_srari .h ..
  case srariW => exact outcome_srari .w ..
  case srariD => exact outcome_srari .d ..
  case srlriB => exact outcome_srlri .b ..
  case srlriH => exact outcome_srlri .h ..
  case srlriW => exact outcome_srlri .w ..
  case srlriD => exact outcome_srlri .d ..
  case andiB => exact outcome_andi ..
  case oriB => exact outcome_ori ..
  case noriB => exact outcome_nori ..
  case xoriB => exact outcome_xori ..
  case bmnziB => exact outcome_bmnzi ..
  case bmziB => exact outcome_bmzi ..
  case bseliB => exact outcome_bseli ..
  case shfB => exact outcome_shf .b ..
  case shfH => exact outcome_shf .h ..
  case shfW => exact outcome_shf .w ..
  case sldiB => exact outcome_sldi .b ..
  case sldiH => exact outcome_sldi .h ..
  case sldiW => exact outcome_sldi .w ..
  case sldiD => exact outcome_sldi .d ..
  case splatiB => exact outcome_splati .b ..
  case splatiH => exact outcome_splati .h ..
  case splatiW => exact outcome_splati .w ..
  case splatiD => exact outcome_splati .d ..
  case copySB => exact outcome_copyS .b ..
  case copySH => exact outcome_copyS .h ..
  case copySW => exact outcome_copyS .w ..
  case copySD => exact outcome_copyS .d ..
  case copyUB => exact outcome_copyU .b ..
  case copyUH => exact outcome_copyU .h ..
  case copyUW => exact outcome_copyU .w ..
  case insertB => exact outcome_insert .b ..
  case insertH => exact outcome_insert .h ..
  case insertW => exact outcome_insert .w ..
  case insertD => exact outcome_insert .d ..
  case insveB => exact outcome_insve .b ..
  case insveH => exact outcome_insve .h ..
  case insveW => exact outcome_insve .w ..
  case insveD => exact outcome_insve .d ..
  case moveV => exact outcome_move ..
  case andV => exact outcome_and ..
  case orV => exact outcome_or ..
  case norV => exact outcome_nor ..
  case xorV => exact outcome_xor ..
  case bmnzV => exact outcome_bmnz ..
  case bmzV => exact outcome_bmz ..
  case bselV => exact outcome_bsel ..
  case fillB => exact outcome_fill .b ..
  case fillH => exact outcome_fill .h ..
  case fillW => exact outcome_fill .w ..
  case fillD => exact outcome_fill .d ..
  case pcntB => exact outcome_pcnt .b ..
  case pcntH => exact outcome_pcnt .h ..
  case pcntW => exact outcome_pcnt .w ..
  case pcntD => exact outcome_pcnt .d ..
  case nlocB => exact outcome_nloc .b ..
  case nlocH => exact outcome_nloc .h ..
  case nlocW => exact outcome_nloc .w ..
  case nlocD => exact outcome_nloc .d ..
  case nlzcB => exact outcome_nlzc .b ..
  case nlzcH => exact outcome_nlzc .h ..
  case nlzcW => exact outcome_nlzc .w ..
  case nlzcD => exact outcome_nlzc .d ..
  case mulQH => exact outcome_mulQ .h ..
  case mulQW => exact outcome_mulQ .w ..
  case maddQH => exact outcome_maddQ .h ..
  case maddQW => exact outcome_maddQ .w ..
  case msubQH => exact outcome_msubQ .h ..
  case msubQW => exact outcome_msubQ .w ..
  case mulrQH => exact outcome_mulrQ .h ..
  case mulrQW => exact outcome_mulrQ .w ..
  case maddrQH => exact outcome_maddrQ .h ..
  case maddrQW => exact outcome_maddrQ .w ..
  case msubrQH => exact outcome_msubrQ .h ..
  case msubrQW => exact outcome_msubrQ .w ..

end Sys2Proof.Machine
end

