-- ==== Sys2Proof/Laws/PerInstr.lean ====
section
/-! SUPPORT. What holds of each instruction as syntax, constructor by constructor. The family `OneCheck`: an
instruction has a ranged immediate, or a lane index and a width condition, never both, so the order in which a
meaning makes its checks does not matter (30_encoding R83, R84, R107; 40 R136). -/

namespace Sys2Proof.Laws.OneCheck

set_option Elab.async false

/-- Every immediate is in range whatever it is, or there is no lane index and no width condition. -/
def Statement (i : Instr) : Prop := i.wellFormed = true ∨ (i.laneIndex = none ∧ i.needsGprLen64 = false)

theorem copySB (rd : Gpr) (ws : Reg) (n : Nat) : Statement (.copySB rd ws n) := .inl rfl
theorem copySH (rd : Gpr) (ws : Reg) (n : Nat) : Statement (.copySH rd ws n) := .inl rfl
theorem copySW (rd : Gpr) (ws : Reg) (n : Nat) : Statement (.copySW rd ws n) := .inl rfl
theorem copySD (rd : Gpr) (ws : Reg) (n : Nat) : Statement (.copySD rd ws n) := .inl rfl
theorem copyUB (rd : Gpr) (ws : Reg) (n : Nat) : Statement (.copyUB rd ws n) := .inl rfl
theorem copyUH (rd : Gpr) (ws : Reg) (n : Nat) : Statement (.copyUH rd ws n) := .inl rfl
theorem copyUW (rd : Gpr) (ws : Reg) (n : Nat) : Statement (.copyUW rd ws n) := .inl rfl
theorem insertB (wd : Reg) (rs : Gpr) (n : Nat) : Statement (.insertB wd rs n) := .inl rfl
theorem insertH (wd : Reg) (rs : Gpr) (n : Nat) : Statement (.insertH wd rs n) := .inl rfl
theorem insertW (wd : Reg) (rs : Gpr) (n : Nat) : Statement (.insertW wd rs n) := .inl rfl
theorem insertD (wd : Reg) (rs : Gpr) (n : Nat) : Statement (.insertD wd rs n) := .inl rfl
theorem insveB (wd ws : Reg) (n : Nat) : Statement (.insveB wd ws n) := .inl rfl
theorem insveH (wd ws : Reg) (n : Nat) : Statement (.insveH wd ws n) := .inl rfl
theorem insveW (wd ws : Reg) (n : Nat) : Statement (.insveW wd ws n) := .inl rfl
theorem insveD (wd ws : Reg) (n : Nat) : Statement (.insveD wd ws n) := .inl rfl
theorem fillB (wd : Reg) (rs : Gpr) : Statement (.fillB wd rs) := .inl rfl
theorem fillH (wd : Reg) (rs : Gpr) : Statement (.fillH wd rs) := .inl rfl
theorem fillW (wd : Reg) (rs : Gpr) : Statement (.fillW wd rs) := .inl rfl
theorem fillD (wd : Reg) (rs : Gpr) : Statement (.fillD wd rs) := .inl rfl
theorem moveV (wd ws : Reg) : Statement (.moveV wd ws) := .inl rfl
theorem addvB (wd ws wt : Reg) : Statement (.addvB wd ws wt) := .inl rfl
theorem addvH (wd ws wt : Reg) : Statement (.addvH wd ws wt) := .inl rfl
theorem addvW (wd ws wt : Reg) : Statement (.addvW wd ws wt) := .inl rfl
theorem addvD (wd ws wt : Reg) : Statement (.addvD wd ws wt) := .inl rfl
theorem addviB (wd ws : Reg) (u5 : Nat) : Statement (.addviB wd ws u5) := .inr ⟨rfl, rfl⟩
theorem addviH (wd ws : Reg) (u5 : Nat) : Statement (.addviH wd ws u5) := .inr ⟨rfl, rfl⟩
theorem addviW (wd ws : Reg) (u5 : Nat) : Statement (.addviW wd ws u5) := .inr ⟨rfl, rfl⟩
theorem addviD (wd ws : Reg) (u5 : Nat) : Statement (.addviD wd ws u5) := .inr ⟨rfl, rfl⟩
theorem subvB (wd ws wt : Reg) : Statement (.subvB wd ws wt) := .inl rfl
theorem subvH (wd ws wt : Reg) : Statement (.subvH wd ws wt) := .inl rfl
theorem subvW (wd ws wt : Reg) : Statement (.subvW wd ws wt) := .inl rfl
theorem subvD (wd ws wt : Reg) : Statement (.subvD wd ws wt) := .inl rfl
theorem subviB (wd ws : Reg) (u5 : Nat) : Statement (.subviB wd ws u5) := .inr ⟨rfl, rfl⟩
theorem subviH (wd ws : Reg) (u5 : Nat) : Statement (.subviH wd ws u5) := .inr ⟨rfl, rfl⟩
theorem subviW (wd ws : Reg) (u5 : Nat) : Statement (.subviW wd ws u5) := .inr ⟨rfl, rfl⟩
theorem subviD (wd ws : Reg) (u5 : Nat) : Statement (.subviD wd ws u5) := .inr ⟨rfl, rfl⟩
theorem addsSB (wd ws wt : Reg) : Statement (.addsSB wd ws wt) := .inl rfl
theorem addsSH (wd ws wt : Reg) : Statement (.addsSH wd ws wt) := .inl rfl
theorem addsSW (wd ws wt : Reg) : Statement (.addsSW wd ws wt) := .inl rfl
theorem addsSD (wd ws wt : Reg) : Statement (.addsSD wd ws wt) := .inl rfl
theorem addsUB (wd ws wt : Reg) : Statement (.addsUB wd ws wt) := .inl rfl
theorem addsUH (wd ws wt : Reg) : Statement (.addsUH wd ws wt) := .inl rfl
theorem addsUW (wd ws wt : Reg) : Statement (.addsUW wd ws wt) := .inl rfl
theorem addsUD (wd ws wt : Reg) : Statement (.addsUD wd ws wt) := .inl rfl
theorem subsSB (wd ws wt : Reg) : Statement (.subsSB wd ws wt) := .inl rfl
theorem subsSH (wd ws wt : Reg) : Statement (.subsSH wd ws wt) := .inl rfl
theorem subsSW (wd ws wt : Reg) : Statement (.subsSW wd ws wt) := .inl rfl
theorem subsSD (wd ws wt : Reg) : Statement (.subsSD wd ws wt) := .inl rfl
theorem subsUB (wd ws wt : Reg) : Statement (.subsUB wd ws wt) := .inl rfl
theorem subsUH (wd ws wt : Reg) : Statement (.subsUH wd ws wt) := .inl rfl
theorem subsUW (wd ws wt : Reg) : Statement (.subsUW wd ws wt) := .inl rfl
theorem subsUD (wd ws wt : Reg) : Statement (.subsUD wd ws wt) := .inl rfl
theorem subsusUB (wd ws wt : Reg) : Statement (.subsusUB wd ws wt) := .inl rfl
theorem subsusUH (wd ws wt : Reg) : Statement (.subsusUH wd ws wt) := .inl rfl
theorem subsusUW (wd ws wt : Reg) : Statement (.subsusUW wd ws wt) := .inl rfl
theorem subsusUD (wd ws wt : Reg) : Statement (.subsusUD wd ws wt) := .inl rfl
theorem subsuuSB (wd ws wt : Reg) : Statement (.subsuuSB wd ws wt) := .inl rfl
theorem subsuuSH (wd ws wt : Reg) : Statement (.subsuuSH wd ws wt) := .inl rfl
theorem subsuuSW (wd ws wt : Reg) : Statement (.subsuuSW wd ws wt) := .inl rfl
theorem subsuuSD (wd ws wt : Reg) : Statement (.subsuuSD wd ws wt) := .inl rfl
theorem asubSB (wd ws wt : Reg) : Statement (.asubSB wd ws wt) := .inl rfl
theorem asubSH (wd ws wt : Reg) : Statement (.asubSH wd ws wt) := .inl rfl
theorem asubSW (wd ws wt : Reg) : Statement (.asubSW wd ws wt) := .inl rfl
theorem asubSD (wd ws wt : Reg) : Statement (.asubSD wd ws wt) := .inl rfl
theorem asubUB (wd ws wt : Reg) : Statement (.asubUB wd ws wt) := .inl rfl
theorem asubUH (wd ws wt : Reg) : Statement (.asubUH wd ws wt) := .inl rfl
theorem asubUW (wd ws wt : Reg) : Statement (.asubUW wd ws wt) := .inl rfl
theorem asubUD (wd ws wt : Reg) : Statement (.asubUD wd ws wt) := .inl rfl
theorem addAB (wd ws wt : Reg) : Statement (.addAB wd ws wt) := .inl rfl
theorem addAH (wd ws wt : Reg) : Statement (.addAH wd ws wt) := .inl rfl
theorem addAW (wd ws wt : Reg) : Statement (.addAW wd ws wt) := .inl rfl
theorem addAD (wd ws wt : Reg) : Statement (.addAD wd ws wt) := .inl rfl
theorem addsAB (wd ws wt : Reg) : Statement (.addsAB wd ws wt) := .inl rfl
theorem addsAH (wd ws wt : Reg) : Statement (.addsAH wd ws wt) := .inl rfl
theorem addsAW (wd ws wt : Reg) : Statement (.addsAW wd ws wt) := .inl rfl
theorem addsAD (wd ws wt : Reg) : Statement (.addsAD wd ws wt) := .inl rfl
theorem aveSB (wd ws wt : Reg) : Statement (.aveSB wd ws wt) := .inl rfl
theorem aveSH (wd ws wt : Reg) : Statement (.aveSH wd ws wt) := .inl rfl
theorem aveSW (wd ws wt : Reg) : Statement (.aveSW wd ws wt) := .inl rfl
theorem aveSD (wd ws wt : Reg) : Statement (.aveSD wd ws wt) := .inl rfl
theorem aveUB (wd ws wt : Reg) : Statement (.aveUB wd ws wt) := .inl rfl
theorem aveUH (wd ws wt : Reg) : Statement (.aveUH wd ws wt) := .inl rfl
theorem aveUW (wd ws wt : Reg) : Statement (.aveUW wd ws wt) := .inl rfl
theorem aveUD (wd ws wt : Reg) : Statement (.aveUD wd ws wt) := .inl rfl
theorem averSB (wd ws wt : Reg) : Statement (.averSB wd ws wt) := .inl rfl
theorem averSH (wd ws wt : Reg) : Statement (.averSH wd ws wt) := .inl rfl
theorem averSW (wd ws wt : Reg) : Statement (.averSW wd ws wt) := .inl rfl
theorem averSD (wd ws wt : Reg) : Statement (.averSD wd ws wt) := .inl rfl
theorem averUB (wd ws wt : Reg) : Statement (.averUB wd ws wt) := .inl rfl
theorem averUH (wd ws wt : Reg) : Statement (.averUH wd ws wt) := .inl rfl
theorem averUW (wd ws wt : Reg) : Statement (.averUW wd ws wt) := .inl rfl
theorem averUD (wd ws wt : Reg) : Statement (.averUD wd ws wt) := .inl rfl
theorem maxAB (wd ws wt : Reg) : Statement (.maxAB wd ws wt) := .inl rfl
theorem maxAH (wd ws wt : Reg) : Statement (.maxAH wd ws wt) := .inl rfl
theorem maxAW (wd ws wt : Reg) : Statement (.maxAW wd ws wt) := .inl rfl
theorem maxAD (wd ws wt : Reg) : Statement (.maxAD wd ws wt) := .inl rfl
theorem minAB (wd ws wt : Reg) : Statement (.minAB wd ws wt) := .inl rfl
theorem minAH (wd ws wt : Reg) : Statement (.minAH wd ws wt) := .inl rfl
theorem minAW (wd ws wt : Reg) : Statement (.minAW wd ws wt) := .inl rfl
theorem minAD (wd ws wt : Reg) : Statement (.minAD wd ws wt) := .inl rfl
theorem maxSB (wd ws wt : Reg) : Statement (.maxSB wd ws wt) := .inl rfl
theorem maxSH (wd ws wt : Reg) : Statement (.maxSH wd ws wt) := .inl rfl
theorem maxSW (wd ws wt : Reg) : Statement (.maxSW wd ws wt) := .inl rfl
theorem maxSD (wd ws wt : Reg) : Statement (.maxSD wd ws wt) := .inl rfl
theorem maxUB (wd ws wt : Reg) : Statement (.maxUB wd ws wt) := .inl rfl
theorem maxUH (wd ws wt : Reg) : Statement (.maxUH wd ws wt) := .inl rfl
theorem maxUW (wd ws wt : Reg) : Statement (.maxUW wd ws wt) := .inl rfl
theorem maxUD (wd ws wt : Reg) : Statement (.maxUD wd ws wt) := .inl rfl
theorem minSB (wd ws wt : Reg) : Statement (.minSB wd ws wt) := .inl rfl
theorem minSH (wd ws wt : Reg) : Statement (.minSH wd ws wt) := .inl rfl
theorem minSW (wd ws wt : Reg) : Statement (.minSW wd ws wt) := .inl rfl
theorem minSD (wd ws wt : Reg) : Statement (.minSD wd ws wt) := .inl rfl
theorem minUB (wd ws wt : Reg) : Statement (.minUB wd ws wt) := .inl rfl
theorem minUH (wd ws wt : Reg) : Statement (.minUH wd ws wt) := .inl rfl
theorem minUW (wd ws wt : Reg) : Statement (.minUW wd ws wt) := .inl rfl
theorem minUD (wd ws wt : Reg) : Statement (.minUD wd ws wt) := .inl rfl
theorem maxiSB (wd ws : Reg) (s5 : Int) : Statement (.maxiSB wd ws s5) := .inr ⟨rfl, rfl⟩
theorem maxiSH (wd ws : Reg) (s5 : Int) : Statement (.maxiSH wd ws s5) := .inr ⟨rfl, rfl⟩
theorem maxiSW (wd ws : Reg) (s5 : Int) : Statement (.maxiSW wd ws s5) := .inr ⟨rfl, rfl⟩
theorem maxiSD (wd ws : Reg) (s5 : Int) : Statement (.maxiSD wd ws s5) := .inr ⟨rfl, rfl⟩
theorem maxiUB (wd ws : Reg) (u5 : Nat) : Statement (.maxiUB wd ws u5) := .inr ⟨rfl, rfl⟩
theorem maxiUH (wd ws : Reg) (u5 : Nat) : Statement (.maxiUH wd ws u5) := .inr ⟨rfl, rfl⟩
theorem maxiUW (wd ws : Reg) (u5 : Nat) : Statement (.maxiUW wd ws u5) := .inr ⟨rfl, rfl⟩
theorem maxiUD (wd ws : Reg) (u5 : Nat) : Statement (.maxiUD wd ws u5) := .inr ⟨rfl, rfl⟩
theorem miniSB (wd ws : Reg) (s5 : Int) : Statement (.miniSB wd ws s5) := .inr ⟨rfl, rfl⟩
theorem miniSH (wd ws : Reg) (s5 : Int) : Statement (.miniSH wd ws s5) := .inr ⟨rfl, rfl⟩
theorem miniSW (wd ws : Reg) (s5 : Int) : Statement (.miniSW wd ws s5) := .inr ⟨rfl, rfl⟩
theorem miniSD (wd ws : Reg) (s5 : Int) : Statement (.miniSD wd ws s5) := .inr ⟨rfl, rfl⟩
theorem miniUB (wd ws : Reg) (u5 : Nat) : Statement (.miniUB wd ws u5) := .inr ⟨rfl, rfl⟩
theorem miniUH (wd ws : Reg) (u5 : Nat) : Statement (.miniUH wd ws u5) := .inr ⟨rfl, rfl⟩
theorem miniUW (wd ws : Reg) (u5 : Nat) : Statement (.miniUW wd ws u5) := .inr ⟨rfl, rfl⟩
theorem miniUD (wd ws : Reg) (u5 : Nat) : Statement (.miniUD wd ws u5) := .inr ⟨rfl, rfl⟩
theorem ceqB (wd ws wt : Reg) : Statement (.ceqB wd ws wt) := .inl rfl
theorem ceqH (wd ws wt : Reg) : Statement (.ceqH wd ws wt) := .inl rfl
theorem ceqW (wd ws wt : Reg) : Statement (.ceqW wd ws wt) := .inl rfl
theorem ceqD (wd ws wt : Reg) : Statement (.ceqD wd ws wt) := .inl rfl
theorem ceqiB (wd ws : Reg) (s5 : Int) : Statement (.ceqiB wd ws s5) := .inr ⟨rfl, rfl⟩
theorem ceqiH (wd ws : Reg) (s5 : Int) : Statement (.ceqiH wd ws s5) := .inr ⟨rfl, rfl⟩
theorem ceqiW (wd ws : Reg) (s5 : Int) : Statement (.ceqiW wd ws s5) := .inr ⟨rfl, rfl⟩
theorem ceqiD (wd ws : Reg) (s5 : Int) : Statement (.ceqiD wd ws s5) := .inr ⟨rfl, rfl⟩
theorem cltSB (wd ws wt : Reg) : Statement (.cltSB wd ws wt) := .inl rfl
theorem cltSH (wd ws wt : Reg) : Statement (.cltSH wd ws wt) := .inl rfl
theorem cltSW (wd ws wt : Reg) : Statement (.cltSW wd ws wt) := .inl rfl
theorem cltSD (wd ws wt : Reg) : Statement (.cltSD wd ws wt) := .inl rfl
theorem cltUB (wd ws wt : Reg) : Statement (.cltUB wd ws wt) := .inl rfl
theorem cltUH (wd ws wt : Reg) : Statement (.cltUH wd ws wt) := .inl rfl
theorem cltUW (wd ws wt : Reg) : Statement (.cltUW wd ws wt) := .inl rfl
theorem cltUD (wd ws wt : Reg) : Statement (.cltUD wd ws wt) := .inl rfl
theorem cltiSB (wd ws : Reg) (s5 : Int) : Statement (.cltiSB wd ws s5) := .inr ⟨rfl, rfl⟩
theorem cltiSH (wd ws : Reg) (s5 : Int) : Statement (.cltiSH wd ws s5) := .inr ⟨rfl, rfl⟩
theorem cltiSW (wd ws : Reg) (s5 : Int) : Statement (.cltiSW wd ws s5) := .inr ⟨rfl, rfl⟩
theorem cltiSD (wd ws : Reg) (s5 : Int) : Statement (.cltiSD wd ws s5) := .inr ⟨rfl, rfl⟩
theorem cltiUB (wd ws : Reg) (u5 : Nat) : Statement (.cltiUB wd ws u5) := .inr ⟨rfl, rfl⟩
theorem cltiUH (wd ws : Reg) (u5 : Nat) : Statement (.cltiUH wd ws u5) := .inr ⟨rfl, rfl⟩
theorem cltiUW (wd ws : Reg) (u5 : Nat) : Statement (.cltiUW wd ws u5) := .inr ⟨rfl, rfl⟩
theorem cltiUD (wd ws : Reg) (u5 : Nat) : Statement (.cltiUD wd ws u5) := .inr ⟨rfl, rfl⟩
theorem cleSB (wd ws wt : Reg) : Statement (.cleSB wd ws wt) := .inl rfl
theorem cleSH (wd ws wt : Reg) : Statement (.cleSH wd ws wt) := .inl rfl
theorem cleSW (wd ws wt : Reg) : Statement (.cleSW wd ws wt) := .inl rfl
theorem cleSD (wd ws wt : Reg) : Statement (.cleSD wd ws wt) := .inl rfl
theorem cleUB (wd ws wt : Reg) : Statement (.cleUB wd ws wt) := .inl rfl
theorem cleUH (wd ws wt : Reg) : Statement (.cleUH wd ws wt) := .inl rfl
theorem cleUW (wd ws wt : Reg) : Statement (.cleUW wd ws wt) := .inl rfl
theorem cleUD (wd ws wt : Reg) : Statement (.cleUD wd ws wt) := .inl rfl
theorem cleiSB (wd ws : Reg) (s5 : Int) : Statement (.cleiSB wd ws s5) := .inr ⟨rfl, rfl⟩
theorem cleiSH (wd ws : Reg) (s5 : Int) : Statement (.cleiSH wd ws s5) := .inr ⟨rfl, rfl⟩
theorem cleiSW (wd ws : Reg) (s5 : Int) : Statement (.cleiSW wd ws s5) := .inr ⟨rfl, rfl⟩
theorem cleiSD (wd ws : Reg) (s5 : Int) : Statement (.cleiSD wd ws s5) := .inr ⟨rfl, rfl⟩
theorem cleiUB (wd ws : Reg) (u5 : Nat) : Statement (.cleiUB wd ws u5) := .inr ⟨rfl, rfl⟩
theorem cleiUH (wd ws : Reg) (u5 : Nat) : Statement (.cleiUH wd ws u5) := .inr ⟨rfl, rfl⟩
theorem cleiUW (wd ws : Reg) (u5 : Nat) : Statement (.cleiUW wd ws u5) := .inr ⟨rfl, rfl⟩
theorem cleiUD (wd ws : Reg) (u5 : Nat) : Statement (.cleiUD wd ws u5) := .inr ⟨rfl, rfl⟩
theorem haddSH (wd ws wt : Reg) : Statement (.haddSH wd ws wt) := .inl rfl
theorem haddSW (wd ws wt : Reg) : Statement (.haddSW wd ws wt) := .inl rfl
theorem haddSD (wd ws wt : Reg) : Statement (.haddSD wd ws wt) := .inl rfl
theorem haddUH (wd ws wt : Reg) : Statement (.haddUH wd ws wt) := .inl rfl
theorem haddUW (wd ws wt : Reg) : Statement (.haddUW wd ws wt) := .inl rfl
theorem haddUD (wd ws wt : Reg) : Statement (.haddUD wd ws wt) := .inl rfl
theorem hsubSH (wd ws wt : Reg) : Statement (.hsubSH wd ws wt) := .inl rfl
theorem hsubSW (wd ws wt : Reg) : Statement (.hsubSW wd ws wt) := .inl rfl
theorem hsubSD (wd ws wt : Reg) : Statement (.hsubSD wd ws wt) := .inl rfl
theorem hsubUH (wd ws wt : Reg) : Statement (.hsubUH wd ws wt) := .inl rfl
theorem hsubUW (wd ws wt : Reg) : Statement (.hsubUW wd ws wt) := .inl rfl
theorem hsubUD (wd ws wt : Reg) : Statement (.hsubUD wd ws wt) := .inl rfl
theorem dotpSH (wd ws wt : Reg) : Statement (.dotpSH wd ws wt) := .inl rfl
theorem dotpSW (wd ws wt : Reg) : Statement (.dotpSW wd ws wt) := .inl rfl
theorem dotpSD (wd ws wt : Reg) : Statement (.dotpSD wd ws wt) := .inl rfl
theorem dotpUH (wd ws wt : Reg) : Statement (.dotpUH wd ws wt) := .inl rfl
theorem dotpUW (wd ws wt : Reg) : Statement (.dotpUW wd ws wt) := .inl rfl
theorem dotpUD (wd ws wt : Reg) : Statement (.dotpUD wd ws wt) := .inl rfl
theorem dpaddSH (wd ws wt : Reg) : Statement (.dpaddSH wd ws wt) := .inl rfl
theorem dpaddSW (wd ws wt : Reg) : Statement (.dpaddSW wd ws wt) := .inl rfl
theorem dpaddSD (wd ws wt : Reg) : Statement (.dpaddSD wd ws wt) := .inl rfl
theorem dpaddUH (wd ws wt : Reg) : Statement (.dpaddUH wd ws wt) := .inl rfl
theorem dpaddUW (wd ws wt : Reg) : Statement (.dpaddUW wd ws wt) := .inl rfl
theorem dpaddUD (wd ws wt : Reg) : Statement (.dpaddUD wd ws wt) := .inl rfl
theorem dpsubSH (wd ws wt : Reg) : Statement (.dpsubSH wd ws wt) := .inl rfl
theorem dpsubSW (wd ws wt : Reg) : Statement (.dpsubSW wd ws wt) := .inl rfl
theorem dpsubSD (wd ws wt : Reg) : Statement (.dpsubSD wd ws wt) := .inl rfl
theorem dpsubUH (wd ws wt : Reg) : Statement (.dpsubUH wd ws wt) := .inl rfl
theorem dpsubUW (wd ws wt : Reg) : Statement (.dpsubUW wd ws wt) := .inl rfl
theorem dpsubUD (wd ws wt : Reg) : Statement (.dpsubUD wd ws wt) := .inl rfl
theorem mulvB (wd ws wt : Reg) : Statement (.mulvB wd ws wt) := .inl rfl
theorem mulvH (wd ws wt : Reg) : Statement (.mulvH wd ws wt) := .inl rfl
theorem mulvW (wd ws wt : Reg) : Statement (.mulvW wd ws wt) := .inl rfl
theorem mulvD (wd ws wt : Reg) : Statement (.mulvD wd ws wt) := .inl rfl
theorem maddvB (wd ws wt : Reg) : Statement (.maddvB wd ws wt) := .inl rfl
theorem maddvH (wd ws wt : Reg) : Statement (.maddvH wd ws wt) := .inl rfl
theorem maddvW (wd ws wt : Reg) : Statement (.maddvW wd ws wt) := .inl rfl
theorem maddvD (wd ws wt : Reg) : Statement (.maddvD wd ws wt) := .inl rfl
theorem msubvB (wd ws wt : Reg) : Statement (.msubvB wd ws wt) := .inl rfl
theorem msubvH (wd ws wt : Reg) : Statement (.msubvH wd ws wt) := .inl rfl
theorem msubvW (wd ws wt : Reg) : Statement (.msubvW wd ws wt) := .inl rfl
theorem msubvD (wd ws wt : Reg) : Statement (.msubvD wd ws wt) := .inl rfl
theorem divSB (wd ws wt : Reg) : Statement (.divSB wd ws wt) := .inl rfl
theorem divSH (wd ws wt : Reg) : Statement (.divSH wd ws wt) := .inl rfl
theorem divSW (wd ws wt : Reg) : Statement (.divSW wd ws wt) := .inl rfl
theorem divSD (wd ws wt : Reg) : Statement (.divSD wd ws wt) := .inl rfl
theorem divUB (wd ws wt : Reg) : Statement (.divUB wd ws wt) := .inl rfl
theorem divUH (wd ws wt : Reg) : Statement (.divUH wd ws wt) := .inl rfl
theorem divUW (wd ws wt : Reg) : Statement (.divUW wd ws wt) := .inl rfl
theorem divUD (wd ws wt : Reg) : Statement (.divUD wd ws wt) := .inl rfl
theorem modSB (wd ws wt : Reg) : Statement (.modSB wd ws wt) := .inl rfl
theorem modSH (wd ws wt : Reg) : Statement (.modSH wd ws wt) := .inl rfl
theorem modSW (wd ws wt : Reg) : Statement (.modSW wd ws wt) := .inl rfl
theorem modSD (wd ws wt : Reg) : Statement (.modSD wd ws wt) := .inl rfl
theorem modUB (wd ws wt : Reg) : Statement (.modUB wd ws wt) := .inl rfl
theorem modUH (wd ws wt : Reg) : Statement (.modUH wd ws wt) := .inl rfl
theorem modUW (wd ws wt : Reg) : Statement (.modUW wd ws wt) := .inl rfl
theorem modUD (wd ws wt : Reg) : Statement (.modUD wd ws wt) := .inl rfl
theorem mulQH (wd ws wt : Reg) : Statement (.mulQH wd ws wt) := .inl rfl
theorem mulQW (wd ws wt : Reg) : Statement (.mulQW wd ws wt) := .inl rfl
theorem mulrQH (wd ws wt : Reg) : Statement (.mulrQH wd ws wt) := .inl rfl
theorem mulrQW (wd ws wt : Reg) : Statement (.mulrQW wd ws wt) := .inl rfl
theorem maddQH (wd ws wt : Reg) : Statement (.maddQH wd ws wt) := .inl rfl
theorem maddQW (wd ws wt : Reg) : Statement (.maddQW wd ws wt) := .inl rfl
theorem maddrQH (wd ws wt : Reg) : Statement (.maddrQH wd ws wt) := .inl rfl
theorem maddrQW (wd ws wt : Reg) : Statement (.maddrQW wd ws wt) := .inl rfl
theorem msubQH (wd ws wt : Reg) : Statement (.msubQH wd ws wt) := .inl rfl
theorem msubQW (wd ws wt : Reg) : Statement (.msubQW wd ws wt) := .inl rfl
theorem msubrQH (wd ws wt : Reg) : Statement (.msubrQH wd ws wt) := .inl rfl
theorem msubrQW (wd ws wt : Reg) : Statement (.msubrQW wd ws wt) := .inl rfl
theorem bclrB (wd ws wt : Reg) : Statement (.bclrB wd ws wt) := .inl rfl
theorem bclrH (wd ws wt : Reg) : Statement (.bclrH wd ws wt) := .inl rfl
theorem bclrW (wd ws wt : Reg) : Statement (.bclrW wd ws wt) := .inl rfl
theorem bclrD (wd ws wt : Reg) : Statement (.bclrD wd ws wt) := .inl rfl
theorem bclriB (wd ws : Reg) (m : Nat) : Statement (.bclriB wd ws m) := .inr ⟨rfl, rfl⟩
theorem bclriH (wd ws : Reg) (m : Nat) : Statement (.bclriH wd ws m) := .inr ⟨rfl, rfl⟩
theorem bclriW (wd ws : Reg) (m : Nat) : Statement (.bclriW wd ws m) := .inr ⟨rfl, rfl⟩
theorem bclriD (wd ws : Reg) (m : Nat) : Statement (.bclriD wd ws m) := .inr ⟨rfl, rfl⟩
theorem bsetB (wd ws wt : Reg) : Statement (.bsetB wd ws wt) := .inl rfl
theorem bsetH (wd ws wt : Reg) : Statement (.bsetH wd ws wt) := .inl rfl
theorem bsetW (wd ws wt : Reg) : Statement (.bsetW wd ws wt) := .inl rfl
theorem bsetD (wd ws wt : Reg) : Statement (.bsetD wd ws wt) := .inl rfl
theorem bsetiB (wd ws : Reg) (m : Nat) : Statement (.bsetiB wd ws m) := .inr ⟨rfl, rfl⟩
theorem bsetiH (wd ws : Reg) (m : Nat) : Statement (.bsetiH wd ws m) := .inr ⟨rfl, rfl⟩
theorem bsetiW (wd ws : Reg) (m : Nat) : Statement (.bsetiW wd ws m) := .inr ⟨rfl, rfl⟩
theorem bsetiD (wd ws : Reg) (m : Nat) : Statement (.bsetiD wd ws m) := .inr ⟨rfl, rfl⟩
theorem bnegB (wd ws wt : Reg) : Statement (.bnegB wd ws wt) := .inl rfl
theorem bnegH (wd ws wt : Reg) : Statement (.bnegH wd ws wt) := .inl rfl
theorem bnegW (wd ws wt : Reg) : Statement (.bnegW wd ws wt) := .inl rfl
theorem bnegD (wd ws wt : Reg) : Statement (.bnegD wd ws wt) := .inl rfl
theorem bnegiB (wd ws : Reg) (m : Nat) : Statement (.bnegiB wd ws m) := .inr ⟨rfl, rfl⟩
theorem bnegiH (wd ws : Reg) (m : Nat) : Statement (.bnegiH wd ws m) := .inr ⟨rfl, rfl⟩
theorem bnegiW (wd ws : Reg) (m : Nat) : Statement (.bnegiW wd ws m) := .inr ⟨rfl, rfl⟩
theorem bnegiD (wd ws : Reg) (m : Nat) : Statement (.bnegiD wd ws m) := .inr ⟨rfl, rfl⟩
theorem binslB (wd ws wt : Reg) : Statement (.binslB wd ws wt) := .inl rfl
theorem binslH (wd ws wt : Reg) : Statement (.binslH wd ws wt) := .inl rfl
theorem binslW (wd ws wt : Reg) : Statement (.binslW wd ws wt) := .inl rfl
theorem binslD (wd ws wt : Reg) : Statement (.binslD wd ws wt) := .inl rfl
theorem binsliB (wd ws : Reg) (m : Nat) : Statement (.binsliB wd ws m) := .inr ⟨rfl, rfl⟩
theorem binsliH (wd ws : Reg) (m : Nat) : Statement (.binsliH wd ws m) := .inr ⟨rfl, rfl⟩
theorem binsliW (wd ws : Reg) (m : Nat) : Statement (.binsliW wd ws m) := .inr ⟨rfl, rfl⟩
theorem binsliD (wd ws : Reg) (m : Nat) : Statement (.binsliD wd ws m) := .inr ⟨rfl, rfl⟩
theorem binsrB (wd ws wt : Reg) : Statement (.binsrB wd ws wt) := .inl rfl
theorem binsrH (wd ws wt : Reg) : Statement (.binsrH wd ws wt) := .inl rfl
theorem binsrW (wd ws wt : Reg) : Statement (.binsrW wd ws wt) := .inl rfl
theorem binsrD (wd ws wt : Reg) : Statement (.binsrD wd ws wt) := .inl rfl
theorem binsriB (wd ws : Reg) (m : Nat) : Statement (.binsriB wd ws m) := .inr ⟨rfl, rfl⟩
theorem binsriH (wd ws : Reg) (m : Nat) : Statement (.binsriH wd ws m) := .inr ⟨rfl, rfl⟩
theorem binsriW (wd ws : Reg) (m : Nat) : Statement (.binsriW wd ws m) := .inr ⟨rfl, rfl⟩
theorem binsriD (wd ws : Reg) (m : Nat) : Statement (.binsriD wd ws m) := .inr ⟨rfl, rfl⟩
theorem satSB (wd ws : Reg) (m : Nat) : Statement (.satSB wd ws m) := .inr ⟨rfl, rfl⟩
theorem satSH (wd ws : Reg) (m : Nat) : Statement (.satSH wd ws m) := .inr ⟨rfl, rfl⟩
theorem satSW (wd ws : Reg) (m : Nat) : Statement (.satSW wd ws m) := .inr ⟨rfl, rfl⟩
theorem satSD (wd ws : Reg) (m : Nat) : Statement (.satSD wd ws m) := .inr ⟨rfl, rfl⟩
theorem satUB (wd ws : Reg) (m : Nat) : Statement (.satUB wd ws m) := .inr ⟨rfl, rfl⟩
theorem satUH (wd ws : Reg) (m : Nat) : Statement (.satUH wd ws m) := .inr ⟨rfl, rfl⟩
theorem satUW (wd ws : Reg) (m : Nat) : Statement (.satUW wd ws m) := .inr ⟨rfl, rfl⟩
theorem satUD (wd ws : Reg) (m : Nat) : Statement (.satUD wd ws m) := .inr ⟨rfl, rfl⟩
theorem pcntB (wd ws : Reg) : Statement (.pcntB wd ws) := .inl rfl
theorem pcntH (wd ws : Reg) : Statement (.pcntH wd ws) := .inl rfl
theorem pcntW (wd ws : Reg) : Statement (.pcntW wd ws) := .inl rfl
theorem pcntD (wd ws : Reg) : Statement (.pcntD wd ws) := .inl rfl
theorem nlocB (wd ws : Reg) : Statement (.nlocB wd ws) := .inl rfl
theorem nlocH (wd ws : Reg) : Statement (.nlocH wd ws) := .inl rfl
theorem nlocW (wd ws : Reg) : Statement (.nlocW wd ws) := .inl rfl
theorem nlocD (wd ws : Reg) : Statement (.nlocD wd ws) := .inl rfl
theorem nlzcB (wd ws : Reg) : Statement (.nlzcB wd ws) := .inl rfl
theorem nlzcH (wd ws : Reg) : Statement (.nlzcH wd ws) := .inl rfl
theorem nlzcW (wd ws : Reg) : Statement (.nlzcW wd ws) := .inl rfl
theorem nlzcD (wd ws : Reg) : Statement (.nlzcD wd ws) := .inl rfl
theorem andV (wd ws wt : Reg) : Statement (.andV wd ws wt) := .inl rfl
theorem orV (wd ws wt : Reg) : Statement (.orV wd ws wt) := .inl rfl
theorem norV (wd ws wt : Reg) : Statement (.norV wd ws wt) := .inl rfl
theorem xorV (wd ws wt : Reg) : Statement (.xorV wd ws wt) := .inl rfl
theorem andiB (wd ws : Reg) (i8 : Nat) : Statement (.andiB wd ws i8) := .inr ⟨rfl, rfl⟩
theorem oriB (wd ws : Reg) (i8 : Nat) : Statement (.oriB wd ws i8) := .inr ⟨rfl, rfl⟩
theorem noriB (wd ws : Reg) (i8 : Nat) : Statement (.noriB wd ws i8) := .inr ⟨rfl, rfl⟩
theorem xoriB (wd ws : Reg) (i8 : Nat) : Statement (.xoriB wd ws i8) := .inr ⟨rfl, rfl⟩
theorem bmnzV (wd ws wt : Reg) : Statement (.bmnzV wd ws wt) := .inl rfl
theorem bmzV (wd ws wt : Reg) : Statement (.bmzV wd ws wt) := .inl rfl
theorem bselV (wd ws wt : Reg) : Statement (.bselV wd ws wt) := .inl rfl
theorem bmnziB (wd ws : Reg) (i8 : Nat) : Statement (.bmnziB wd ws i8) := .inr ⟨rfl, rfl⟩
theorem bmziB (wd ws : Reg) (i8 : Nat) : Statement (.bmziB wd ws i8) := .inr ⟨rfl, rfl⟩
theorem bseliB (wd ws : Reg) (i8 : Nat) : Statement (.bseliB wd ws i8) := .inr ⟨rfl, rfl⟩
theorem sllB (wd ws wt : Reg) : Statement (.sllB wd ws wt) := .inl rfl
theorem sllH (wd ws wt : Reg) : Statement (.sllH wd ws wt) := .inl rfl
theorem sllW (wd ws wt : Reg) : Statement (.sllW wd ws wt) := .inl rfl
theorem sllD (wd ws wt : Reg) : Statement (.sllD wd ws wt) := .inl rfl
theorem slliB (wd ws : Reg) (m : Nat) : Statement (.slliB wd ws m) := .inr ⟨rfl, rfl⟩
theorem slliH (wd ws : Reg) (m : Nat) : Statement (.slliH wd ws m) := .inr ⟨rfl, rfl⟩
theorem slliW (wd ws : Reg) (m : Nat) : Statement (.slliW wd ws m) := .inr ⟨rfl, rfl⟩
theorem slliD (wd ws : Reg) (m : Nat) : Statement (.slliD wd ws m) := .inr ⟨rfl, rfl⟩
theorem sraB (wd ws wt : Reg) : Statement (.sraB wd ws wt) := .inl rfl
theorem sraH (wd ws wt : Reg) : Statement (.sraH wd ws wt) := .inl rfl
theorem sraW (wd ws wt : Reg) : Statement (.sraW wd ws wt) := .inl rfl
theorem sraD (wd ws wt : Reg) : Statement (.sraD wd ws wt) := .inl rfl
theorem sraiB (wd ws : Reg) (m : Nat) : Statement (.sraiB wd ws m) := .inr ⟨rfl, rfl⟩
theorem sraiH (wd ws : Reg) (m : Nat) : Statement (.sraiH wd ws m) := .inr ⟨rfl, rfl⟩
theorem sraiW (wd ws : Reg) (m : Nat) : Statement (.sraiW wd ws m) := .inr ⟨rfl, rfl⟩
theorem sraiD (wd ws : Reg) (m : Nat) : Statement (.sraiD wd ws m) := .inr ⟨rfl, rfl⟩
theorem srlB (wd ws wt : Reg) : Statement (.srlB wd ws wt) := .inl rfl
theorem srlH (wd ws wt : Reg) : Statement (.srlH wd ws wt) := .inl rfl
theorem srlW (wd ws wt : Reg) : Statement (.srlW wd ws wt) := .inl rfl
theorem srlD (wd ws wt : Reg) : Statement (.srlD wd ws wt) := .inl rfl
theorem srliB (wd ws : Reg) (m : Nat) : Statement (.srliB wd ws m) := .inr ⟨rfl, rfl⟩
theorem srliH (wd ws : Reg) (m : Nat) : Statement (.srliH wd ws m) := .inr ⟨rfl, rfl⟩
theorem srliW (wd ws : Reg) (m : Nat) : Statement (.srliW wd ws m) := .inr ⟨rfl, rfl⟩
theorem srliD (wd ws : Reg) (m : Nat) : Statement (.srliD wd ws m) := .inr ⟨rfl, rfl⟩
theorem srarB (wd ws wt : Reg) : Statement (.srarB wd ws wt) := .inl rfl
theorem srarH (wd ws wt : Reg) : Statement (.srarH wd ws wt) := .inl rfl
theorem srarW (wd ws wt : Reg) : Statement (.srarW wd ws wt) := .inl rfl
theorem srarD (wd ws wt : Reg) : Statement (.srarD wd ws wt) := .inl rfl
theorem srariB (wd ws : Reg) (m : Nat) : Statement (.srariB wd ws m) := .inr ⟨rfl, rfl⟩
theorem srariH (wd ws : Reg) (m : Nat) : Statement (.srariH wd ws m) := .inr ⟨rfl, rfl⟩
theorem srariW (wd ws : Reg) (m : Nat) : Statement (.srariW wd ws m) := .inr ⟨rfl, rfl⟩
theorem srariD (wd ws : Reg) (m : Nat) : Statement (.srariD wd ws m) := .inr ⟨rfl, rfl⟩
theorem srlrB (wd ws wt : Reg) : Statement (.srlrB wd ws wt) := .inl rfl
theorem srlrH (wd ws wt : Reg) : Statement (.srlrH wd ws wt) := .inl rfl
theorem srlrW (wd ws wt : Reg) : Statement (.srlrW wd ws wt) := .inl rfl
theorem srlrD (wd ws wt : Reg) : Statement (.srlrD wd ws wt) := .inl rfl
theorem srlriB (wd ws : Reg) (m : Nat) : Statement (.srlriB wd ws m) := .inr ⟨rfl, rfl⟩
theorem srlriH (wd ws : Reg) (m : Nat) : Statement (.srlriH wd ws m) := .inr ⟨rfl, rfl⟩
theorem srlriW (wd ws : Reg) (m : Nat) : Statement (.srlriW wd ws m) := .inr ⟨rfl, rfl⟩
theorem srlriD (wd ws : Reg) (m : Nat) : Statement (.srlriD wd ws m) := .inr ⟨rfl, rfl⟩
theorem ilvevB (wd ws wt : Reg) : Statement (.ilvevB wd ws wt) := .inl rfl
theorem ilvevH (wd ws wt : Reg) : Statement (.ilvevH wd ws wt) := .inl rfl
theorem ilvevW (wd ws wt : Reg) : Statement (.ilvevW wd ws wt) := .inl rfl
theorem ilvevD (wd ws wt : Reg) : Statement (.ilvevD wd ws wt) := .inl rfl
theorem ilvodB (wd ws wt : Reg) : Statement (.ilvodB wd ws wt) := .inl rfl
theorem ilvodH (wd ws wt : Reg) : Statement (.ilvodH wd ws wt) := .inl rfl
theorem ilvodW (wd ws wt : Reg) : Statement (.ilvodW wd ws wt) := .inl rfl
theorem ilvodD (wd ws wt : Reg) : Statement (.ilvodD wd ws wt) := .inl rfl
theorem ilvlB (wd ws wt : Reg) : Statement (.ilvlB wd ws wt) := .inl rfl
theorem ilvlH (wd ws wt : Reg) : Statement (.ilvlH wd ws wt) := .inl rfl
theorem ilvlW (wd ws wt : Reg) : Statement (.ilvlW wd ws wt) := .inl rfl
theorem ilvlD (wd ws wt : Reg) : Statement (.ilvlD wd ws wt) := .inl rfl
theorem ilvrB (wd ws wt : Reg) : Statement (.ilvrB wd ws wt) := .inl rfl
theorem ilvrH (wd ws wt : Reg) : Statement (.ilvrH wd ws wt) := .inl rfl
theorem ilvrW (wd ws wt : Reg) : Statement (.ilvrW wd ws wt) := .inl rfl
theorem ilvrD (wd ws wt : Reg) : Statement (.ilvrD wd ws wt) := .inl rfl
theorem pckevB (wd ws wt : Reg) : Statement (.pckevB wd ws wt) := .inl rfl
theorem pckevH (wd ws wt : Reg) : Statement (.pckevH wd ws wt) := .inl rfl
theorem pckevW (wd ws wt : Reg) : Statement (.pckevW wd ws wt) := .inl rfl
theorem pckevD (wd ws wt : Reg) : Statement (.pckevD wd ws wt) := .inl rfl
theorem pckodB (wd ws wt : Reg) : Statement (.pckodB wd ws wt) := .inl rfl
theorem pckodH (wd ws wt : Reg) : Statement (.pckodH wd ws wt) := .inl rfl
theorem pckodW (wd ws wt : Reg) : Statement (.pckodW wd ws wt) := .inl rfl
theorem pckodD (wd ws wt : Reg) : Statement (.pckodD wd ws wt) := .inl rfl
theorem vshfB (wd ws wt : Reg) : Statement (.vshfB wd ws wt) := .inl rfl
theorem vshfH (wd ws wt : Reg) : Statement (.vshfH wd ws wt) := .inl rfl
theorem vshfW (wd ws wt : Reg) : Statement (.vshfW wd ws wt) := .inl rfl
theorem vshfD (wd ws wt : Reg) : Statement (.vshfD wd ws wt) := .inl rfl
theorem shfB (wd ws : Reg) (i8 : Nat) : Statement (.shfB wd ws i8) := .inr ⟨rfl, rfl⟩
theorem shfH (wd ws : Reg) (i8 : Nat) : Statement (.shfH wd ws i8) := .inr ⟨rfl, rfl⟩
theorem shfW (wd ws : Reg) (i8 : Nat) : Statement (.shfW wd ws i8) := .inr ⟨rfl, rfl⟩
theorem sldB (wd ws : Reg) (rt : Gpr) : Statement (.sldB wd ws rt) := .inl rfl
theorem sldH (wd ws : Reg) (rt : Gpr) : Statement (.sldH wd ws rt) := .inl rfl
theorem sldW (wd ws : Reg) (rt : Gpr) : Statement (.sldW wd ws rt) := .inl rfl
theorem sldD (wd ws : Reg) (rt : Gpr) : Statement (.sldD wd ws rt) := .inl rfl
theorem sldiB (wd ws : Reg) (n : Nat) : Statement (.sldiB wd ws n) := .inl rfl
theorem sldiH (wd ws : Reg) (n : Nat) : Statement (.sldiH wd ws n) := .inl rfl
theorem sldiW (wd ws : Reg) (n : Nat) : Statement (.sldiW wd ws n) := .inl rfl
theorem sldiD (wd ws : Reg) (n : Nat) : Statement (.sldiD wd ws n) := .inl rfl
theorem splatB (wd ws : Reg) (rt : Gpr) : Statement (.splatB wd ws rt) := .inl rfl
theorem splatH (wd ws : Reg) (rt : Gpr) : Statement (.splatH wd ws rt) := .inl rfl
theorem splatW (wd ws : Reg) (rt : Gpr) : Statement (.splatW wd ws rt) := .inl rfl
theorem splatD (wd ws : Reg) (rt : Gpr) : Statement (.splatD wd ws rt) := .inl rfl
theorem splatiB (wd ws : Reg) (n : Nat) : Statement (.splatiB wd ws n) := .inl rfl
theorem splatiH (wd ws : Reg) (n : Nat) : Statement (.splatiH wd ws n) := .inl rfl
theorem splatiW (wd ws : Reg) (n : Nat) : Statement (.splatiW wd ws n) := .inl rfl
theorem splatiD (wd ws : Reg) (n : Nat) : Statement (.splatiD wd ws n) := .inl rfl
theorem ldiB (wd : Reg) (s10 : Int) : Statement (.ldiB wd s10) := .inr ⟨rfl, rfl⟩
theorem ldiH (wd : Reg) (s10 : Int) : Statement (.ldiH wd s10) := .inr ⟨rfl, rfl⟩
theorem ldiW (wd : Reg) (s10 : Int) : Statement (.ldiW wd s10) := .inr ⟨rfl, rfl⟩
theorem ldiD (wd : Reg) (s10 : Int) : Statement (.ldiD wd s10) := .inr ⟨rfl, rfl⟩

/-- The family, for every instruction. -/
theorem all (i : Instr) : Statement i := by
  cases i
  case copySB => exact copySB ..
  case copySH => exact copySH ..
  case copySW => exact copySW ..
  case copySD => exact copySD ..
  case copyUB => exact copyUB ..
  case copyUH => exact copyUH ..
  case copyUW => exact copyUW ..
  case insertB => exact insertB ..
  case insertH => exact insertH ..
  case insertW => exact insertW ..
  case insertD => exact insertD ..
  case insveB => exact insveB ..
  case insveH => exact insveH ..
  case insveW => exact insveW ..
  case insveD => exact insveD ..
  case fillB => exact fillB ..
  case fillH => exact fillH ..
  case fillW => exact fillW ..
  case fillD => exact fillD ..
  case moveV => exact moveV ..
  case addvB => exact addvB ..
  case addvH => exact addvH ..
  case addvW => exact addvW ..
  case addvD => exact addvD ..
  case addviB => exact addviB ..
  case addviH => exact addviH ..
  case addviW => exact addviW ..
  case addviD => exact addviD ..
  case subvB => exact subvB ..
  case subvH => exact subvH ..
  case subvW => exact subvW ..
  case subvD => exact subvD ..
  case subviB => exact subviB ..
  case subviH => exact subviH ..
  case subviW => exact subviW ..
  case subviD => exact subviD ..
  case addsSB => exact addsSB ..
  case addsSH => exact addsSH ..
  case addsSW => exact addsSW ..
  case addsSD => exact addsSD ..
  case addsUB => exact addsUB ..
  case addsUH => exact addsUH ..
  case addsUW => exact addsUW ..
  case addsUD => exact addsUD ..
  case subsSB => exact subsSB ..
  case subsSH => exact subsSH ..
  case subsSW => exact subsSW ..
  case subsSD => exact subsSD ..
  case subsUB => exact subsUB ..
  case subsUH => exact subsUH ..
  case subsUW => exact subsUW ..
  case subsUD => exact subsUD ..
  case subsusUB => exact subsusUB ..
  case subsusUH => exact subsusUH ..
  case subsusUW => exact subsusUW ..
  case subsusUD => exact subsusUD ..
  case subsuuSB => exact subsuuSB ..
  case subsuuSH => exact subsuuSH ..
  case subsuuSW => exact subsuuSW ..
  case subsuuSD => exact subsuuSD ..
  case asubSB => exact asubSB ..
  case asubSH => exact asubSH ..
  case asubSW => exact asubSW ..
  case asubSD => exact asubSD ..
  case asubUB => exact asubUB ..
  case asubUH => exact asubUH ..
  case asubUW => exact asubUW ..
  case asubUD => exact asubUD ..
  case addAB => exact addAB ..
  case addAH => exact addAH ..
  case addAW => exact addAW ..
  case addAD => exact addAD ..
  case addsAB => exact addsAB ..
  case addsAH => exact addsAH ..
  case addsAW => exact addsAW ..
  case addsAD => exact addsAD ..
  case aveSB => exact aveSB ..
  case aveSH => exact aveSH ..
  case aveSW => exact aveSW ..
  case aveSD => exact aveSD ..
  case aveUB => exact aveUB ..
  case aveUH => exact aveUH ..
  case aveUW => exact aveUW ..
  case aveUD => exact aveUD ..
  case averSB => exact averSB ..
  case averSH => exact averSH ..
  case averSW => exact averSW ..
  case averSD => exact averSD ..
  case averUB => exact averUB ..
  case averUH => exact averUH ..
  case averUW => exact averUW ..
  case averUD => exact averUD ..
  case maxAB => exact maxAB ..
  case maxAH => exact maxAH ..
  case maxAW => exact maxAW ..
  case maxAD => exact maxAD ..
  case minAB => exact minAB ..
  case minAH => exact minAH ..
  case minAW => exact minAW ..
  case minAD => exact minAD ..
  case maxSB => exact maxSB ..
  case maxSH => exact maxSH ..
  case maxSW => exact maxSW ..
  case maxSD => exact maxSD ..
  case maxUB => exact maxUB ..
  case maxUH => exact maxUH ..
  case maxUW => exact maxUW ..
  case maxUD => exact maxUD ..
  case minSB => exact minSB ..
  case minSH => exact minSH ..
  case minSW => exact minSW ..
  case minSD => exact minSD ..
  case minUB => exact minUB ..
  case minUH => exact minUH ..
  case minUW => exact minUW ..
  case minUD => exact minUD ..
  case maxiSB => exact maxiSB ..
  case maxiSH => exact maxiSH ..
  case maxiSW => exact maxiSW ..
  case maxiSD => exact maxiSD ..
  case maxiUB => exact maxiUB ..
  case maxiUH => exact maxiUH ..
  case maxiUW => exact maxiUW ..
  case maxiUD => exact maxiUD ..
  case miniSB => exact miniSB ..
  case miniSH => exact miniSH ..
  case miniSW => exact miniSW ..
  case miniSD => exact miniSD ..
  case miniUB => exact miniUB ..
  case miniUH => exact miniUH ..
  case miniUW => exact miniUW ..
  case miniUD => exact miniUD ..
  case ceqB => exact ceqB ..
  case ceqH => exact ceqH ..
  case ceqW => exact ceqW ..
  case ceqD => exact ceqD ..
  case ceqiB => exact ceqiB ..
  case ceqiH => exact ceqiH ..
  case ceqiW => exact ceqiW ..
  case ceqiD => exact ceqiD ..
  case cltSB => exact cltSB ..
  case cltSH => exact cltSH ..
  case cltSW => exact cltSW ..
  case cltSD => exact cltSD ..
  case cltUB => exact cltUB ..
  case cltUH => exact cltUH ..
  case cltUW => exact cltUW ..
  case cltUD => exact cltUD ..
  case cltiSB => exact cltiSB ..
  case cltiSH => exact cltiSH ..
  case cltiSW => exact cltiSW ..
  case cltiSD => exact cltiSD ..
  case cltiUB => exact cltiUB ..
  case cltiUH => exact cltiUH ..
  case cltiUW => exact cltiUW ..
  case cltiUD => exact cltiUD ..
  case cleSB => exact cleSB ..
  case cleSH => exact cleSH ..
  case cleSW => exact cleSW ..
  case cleSD => exact cleSD ..
  case cleUB => exact cleUB ..
  case cleUH => exact cleUH ..
  case cleUW => exact cleUW ..
  case cleUD => exact cleUD ..
  case cleiSB => exact cleiSB ..
  case cleiSH => exact cleiSH ..
  case cleiSW => exact cleiSW ..
  case cleiSD => exact cleiSD ..
  case cleiUB => exact cleiUB ..
  case cleiUH => exact cleiUH ..
  case cleiUW => exact cleiUW ..
  case cleiUD => exact cleiUD ..
  case haddSH => exact haddSH ..
  case haddSW => exact haddSW ..
  case haddSD => exact haddSD ..
  case haddUH => exact haddUH ..
  case haddUW => exact haddUW ..
  case haddUD => exact haddUD ..
  case hsubSH => exact hsubSH ..
  case hsubSW => exact hsubSW ..
  case hsubSD => exact hsubSD ..
  case hsubUH => exact hsubUH ..
  case hsubUW => exact hsubUW ..
  case hsubUD => exact hsubUD ..
  case dotpSH => exact dotpSH ..
  case dotpSW => exact dotpSW ..
  case dotpSD => exact dotpSD ..
  case dotpUH => exact dotpUH ..
  case dotpUW => exact dotpUW ..
  case dotpUD => exact dotpUD ..
  case dpaddSH => exact dpaddSH ..
  case dpaddSW => exact dpaddSW ..
  case dpaddSD => exact dpaddSD ..
  case dpaddUH => exact dpaddUH ..
  case dpaddUW => exact dpaddUW ..
  case dpaddUD => exact dpaddUD ..
  case dpsubSH => exact dpsubSH ..
  case dpsubSW => exact dpsubSW ..
  case dpsubSD => exact dpsubSD ..
  case dpsubUH => exact dpsubUH ..
  case dpsubUW => exact dpsubUW ..
  case dpsubUD => exact dpsubUD ..
  case mulvB => exact mulvB ..
  case mulvH => exact mulvH ..
  case mulvW => exact mulvW ..
  case mulvD => exact mulvD ..
  case maddvB => exact maddvB ..
  case maddvH => exact maddvH ..
  case maddvW => exact maddvW ..
  case maddvD => exact maddvD ..
  case msubvB => exact msubvB ..
  case msubvH => exact msubvH ..
  case msubvW => exact msubvW ..
  case msubvD => exact msubvD ..
  case divSB => exact divSB ..
  case divSH => exact divSH ..
  case divSW => exact divSW ..
  case divSD => exact divSD ..
  case divUB => exact divUB ..
  case divUH => exact divUH ..
  case divUW => exact divUW ..
  case divUD => exact divUD ..
  case modSB => exact modSB ..
  case modSH => exact modSH ..
  case modSW => exact modSW ..
  case modSD => exact modSD ..
  case modUB => exact modUB ..
  case modUH => exact modUH ..
  case modUW => exact modUW ..
  case modUD => exact modUD ..
  case mulQH => exact mulQH ..
  case mulQW => exact mulQW ..
  case mulrQH => exact mulrQH ..
  case mulrQW => exact mulrQW ..
  case maddQH => exact maddQH ..
  case maddQW => exact maddQW ..
  case maddrQH => exact maddrQH ..
  case maddrQW => exact maddrQW ..
  case msubQH => exact msubQH ..
  case msubQW => exact msubQW ..
  case msubrQH => exact msubrQH ..
  case msubrQW => exact msubrQW ..
  case bclrB => exact bclrB ..
  case bclrH => exact bclrH ..
  case bclrW => exact bclrW ..
  case bclrD => exact bclrD ..
  case bclriB => exact bclriB ..
  case bclriH => exact bclriH ..
  case bclriW => exact bclriW ..
  case bclriD => exact bclriD ..
  case bsetB => exact bsetB ..
  case bsetH => exact bsetH ..
  case bsetW => exact bsetW ..
  case bsetD => exact bsetD ..
  case bsetiB => exact bsetiB ..
  case bsetiH => exact bsetiH ..
  case bsetiW => exact bsetiW ..
  case bsetiD => exact bsetiD ..
  case bnegB => exact bnegB ..
  case bnegH => exact bnegH ..
  case bnegW => exact bnegW ..
  case bnegD => exact bnegD ..
  case bnegiB => exact bnegiB ..
  case bnegiH => exact bnegiH ..
  case bnegiW => exact bnegiW ..
  case bnegiD => exact bnegiD ..
  case binslB => exact binslB ..
  case binslH => exact binslH ..
  case binslW => exact binslW ..
  case binslD => exact binslD ..
  case binsliB => exact binsliB ..
  case binsliH => exact binsliH ..
  case binsliW => exact binsliW ..
  case binsliD => exact binsliD ..
  case binsrB => exact binsrB ..
  case binsrH => exact binsrH ..
  case binsrW => exact binsrW ..
  case binsrD => exact binsrD ..
  case binsriB => exact binsriB ..
  case binsriH => exact binsriH ..
  case binsriW => exact binsriW ..
  case binsriD => exact binsriD ..
  case satSB => exact satSB ..
  case satSH => exact satSH ..
  case satSW => exact satSW ..
  case satSD => exact satSD ..
  case satUB => exact satUB ..
  case satUH => exact satUH ..
  case satUW => exact satUW ..
  case satUD => exact satUD ..
  case pcntB => exact pcntB ..
  case pcntH => exact pcntH ..
  case pcntW => exact pcntW ..
  case pcntD => exact pcntD ..
  case nlocB => exact nlocB ..
  case nlocH => exact nlocH ..
  case nlocW => exact nlocW ..
  case nlocD => exact nlocD ..
  case nlzcB => exact nlzcB ..
  case nlzcH => exact nlzcH ..
  case nlzcW => exact nlzcW ..
  case nlzcD => exact nlzcD ..
  case andV => exact andV ..
  case orV => exact orV ..
  case norV => exact norV ..
  case xorV => exact xorV ..
  case andiB => exact andiB ..
  case oriB => exact oriB ..
  case noriB => exact noriB ..
  case xoriB => exact xoriB ..
  case bmnzV => exact bmnzV ..
  case bmzV => exact bmzV ..
  case bselV => exact bselV ..
  case bmnziB => exact bmnziB ..
  case bmziB => exact bmziB ..
  case bseliB => exact bseliB ..
  case sllB => exact sllB ..
  case sllH => exact sllH ..
  case sllW => exact sllW ..
  case sllD => exact sllD ..
  case slliB => exact slliB ..
  case slliH => exact slliH ..
  case slliW => exact slliW ..
  case slliD => exact slliD ..
  case sraB => exact sraB ..
  case sraH => exact sraH ..
  case sraW => exact sraW ..
  case sraD => exact sraD ..
  case sraiB => exact sraiB ..
  case sraiH => exact sraiH ..
  case sraiW => exact sraiW ..
  case sraiD => exact sraiD ..
  case srlB => exact srlB ..
  case srlH => exact srlH ..
  case srlW => exact srlW ..
  case srlD => exact srlD ..
  case srliB => exact srliB ..
  case srliH => exact srliH ..
  case srliW => exact srliW ..
  case srliD => exact srliD ..
  case srarB => exact srarB ..
  case srarH => exact srarH ..
  case srarW => exact srarW ..
  case srarD => exact srarD ..
  case srariB => exact srariB ..
  case srariH => exact srariH ..
  case srariW => exact srariW ..
  case srariD => exact srariD ..
  case srlrB => exact srlrB ..
  case srlrH => exact srlrH ..
  case srlrW => exact srlrW ..
  case srlrD => exact srlrD ..
  case srlriB => exact srlriB ..
  case srlriH => exact srlriH ..
  case srlriW => exact srlriW ..
  case srlriD => exact srlriD ..
  case ilvevB => exact ilvevB ..
  case ilvevH => exact ilvevH ..
  case ilvevW => exact ilvevW ..
  case ilvevD => exact ilvevD ..
  case ilvodB => exact ilvodB ..
  case ilvodH => exact ilvodH ..
  case ilvodW => exact ilvodW ..
  case ilvodD => exact ilvodD ..
  case ilvlB => exact ilvlB ..
  case ilvlH => exact ilvlH ..
  case ilvlW => exact ilvlW ..
  case ilvlD => exact ilvlD ..
  case ilvrB => exact ilvrB ..
  case ilvrH => exact ilvrH ..
  case ilvrW => exact ilvrW ..
  case ilvrD => exact ilvrD ..
  case pckevB => exact pckevB ..
  case pckevH => exact pckevH ..
  case pckevW => exact pckevW ..
  case pckevD => exact pckevD ..
  case pckodB => exact pckodB ..
  case pckodH => exact pckodH ..
  case pckodW => exact pckodW ..
  case pckodD => exact pckodD ..
  case vshfB => exact vshfB ..
  case vshfH => exact vshfH ..
  case vshfW => exact vshfW ..
  case vshfD => exact vshfD ..
  case shfB => exact shfB ..
  case shfH => exact shfH ..
  case shfW => exact shfW ..
  case sldB => exact sldB ..
  case sldH => exact sldH ..
  case sldW => exact sldW ..
  case sldD => exact sldD ..
  case sldiB => exact sldiB ..
  case sldiH => exact sldiH ..
  case sldiW => exact sldiW ..
  case sldiD => exact sldiD ..
  case splatB => exact splatB ..
  case splatH => exact splatH ..
  case splatW => exact splatW ..
  case splatD => exact splatD ..
  case splatiB => exact splatiB ..
  case splatiH => exact splatiH ..
  case splatiW => exact splatiW ..
  case splatiD => exact splatiD ..
  case ldiB => exact ldiB ..
  case ldiH => exact ldiH ..
  case ldiW => exact ldiW ..
  case ldiD => exact ldiD ..

end Sys2Proof.Laws.OneCheck
end

