-- ==== Sys2Proof/Laws/Rows.lean ====
section
/-! SUPPORT. From a row's word and the driver its meaning runs through, to what the row does (the terms of
`Safety.lean`). -/

namespace Sys2Proof.Machine

set_option Elab.async false

variable {w : Word32} {i : Instr} {s : State} {wd ws wt : Reg} {df : Fmt}

theorem withImmediate_of_true {b : Bool} (h : b = true) (r : Result) : withImmediate b r = r := by
  subst h; rfl

theorem requireGprLen64_of_w64 (h : s.params.gprLen = .w64) (r : Result) : requireGprLen64 s r = r := by
  simp [requireGprLen64, h]

theorem rowLanes_of_lanewise3 {k : Lane df → Lane df → Lane df → Int} {f : Nat → Int}
    (hd : decode w = .ok i) (he : exec i s = lanewise3 df wd ws wt k s)
    (hf : ∀ j, j < laneCount df →
      trunc df (k (loadLane s wd df j) (loadLane s ws df j) (loadLane s wt df j)) = trunc df (f j)) :
    RowLanes w i s wd df f := by
  obtain ⟨V, hV, hl⟩ := lanewise3_spec df wd ws wt k s
  exact ⟨hd, V, he.trans hV, fun j hj => (hl j hj).trans (hf j hj)⟩

theorem rowLanes_of_lanewise2 {k : Lane df → Lane df → Int} {f : Nat → Int}
    (hd : decode w = .ok i) (he : exec i s = lanewise2 df wd ws k s)
    (hf : ∀ j, j < laneCount df → trunc df (k (loadLane s wd df j) (loadLane s ws df j)) = trunc df (f j)) :
    RowLanes w i s wd df f := by
  obtain ⟨V, hV, hl⟩ := lanewise2_spec df wd ws k s
  exact ⟨hd, V, he.trans hV, fun j hj => (hl j hj).trans (hf j hj)⟩

theorem rowBits_of_lanewise3 {k : Lane df → Lane df → Lane df → Int} {f : Nat → Nat → Bool}
    (hd : decode w = .ok i) (he : exec i s = lanewise3 df wd ws wt k s)
    (hf : ∀ j b, j < laneCount df → b < laneBits df →
      (trunc df (k (loadLane s wd df j) (loadLane s ws df j) (loadLane s wt df j))).getLsbD b = f j b) :
    RowBits w i s wd df f := by
  obtain ⟨V, hV, hl⟩ := lanewise3_spec df wd ws wt k s
  exact ⟨hd, V, he.trans hV, fun j b hj hb => by rw [hl j hj]; exact hf j b hj hb⟩

theorem rowBits_of_lanewise2 {k : Lane df → Lane df → Int} {f : Nat → Nat → Bool}
    (hd : decode w = .ok i) (he : exec i s = lanewise2 df wd ws k s)
    (hf : ∀ j b, j < laneCount df → b < laneBits df →
      (trunc df (k (loadLane s wd df j) (loadLane s ws df j))).getLsbD b = f j b) :
    RowBits w i s wd df f := by
  obtain ⟨V, hV, hl⟩ := lanewise2_spec df wd ws k s
  exact ⟨hd, V, he.trans hV, fun j b hj hb => by rw [hl j hj]; exact hf j b hj hb⟩

theorem rowCommits_of_whole {V : Vec} {P : Vec → Prop} (hd : decode w = .ok i)
    (he : exec i s = whole wd V s) (hP : P V) : RowCommits w i s wd P :=
  ⟨hd, V, he.trans (whole_spec wd V s), hP⟩

theorem rowCommits_of_staged {writes : List (Nat × Lane df)} {P : Vec → Prop} (hd : decode w = .ok i)
    (he : exec i s = staged df wd writes s) (hP : P (stage df writes 0)) : RowCommits w i s wd P :=
  ⟨hd, _, he.trans (staged_eq df wd writes s), hP⟩

theorem rowCommits_of_broadcast {v : Int} {P : Vec → Prop} (hd : decode w = .ok i)
    (he : exec i s = broadcast df wd v s)
    (hP : ∀ V, (∀ j, j < laneCount df → lane V df j = trunc df v) → P V) : RowCommits w i s wd P := by
  obtain ⟨V, hV, hl⟩ := broadcast_spec df wd v s
  exact ⟨hd, V, he.trans hV, hP V hl⟩

end Sys2Proof.Machine
end

