-- ==== Sys2Proof/Laws/Staged.lean ====
section
/-! SUPPORT. What the staging register holds after each staged operation's writes, lane by lane, whatever it held
before (40 R139; 47 R341 to R350). -/

namespace Sys2Proof.Machine

set_option Elab.async false

theorem two_mul_half_laneCount (df : Fmt) : 2 * (laneCount df / 2) = laneCount df := by cases df <;> rfl

/-- The groups of a slide fill the register. -/
theorem laneCount_mul_groups (df : Fmt) : laneCount df * (16 / laneCount df) = 16 := by cases df <;> rfl

theorem mem_interleave {df : Fmt} {S T : Vec} {src : Nat → Nat} {p : Nat × Lane df} :
    p ∈ interleave df S T src ↔
      ∃ i < laneCount df / 2, p = (2 * i, lane T df (src i)) ∨ p = (2 * i + 1, lane S df (src i)) := by
  simp [interleave]

theorem mem_pack {df : Fmt} {S T : Vec} {src : Nat → Nat} {p : Nat × Lane df} :
    p ∈ pack df S T src ↔
      ∃ i < laneCount df / 2, p = (i, lane T df (src i)) ∨ p = (laneCount df / 2 + i, lane S df (src i)) := by
  simp [pack]

theorem interleave_nodup (df : Fmt) (S T : Vec) (src : Nat → Nat) :
    ((interleave df S T src).map Prod.fst).Nodup := by
  have : (interleave df S T src).map Prod.fst
      = (List.range (laneCount df / 2)).flatMap fun i => [2 * i, 2 * i + 1] := by
    simp [interleave, List.map_flatMap]
  rw [this]; cases df <;> decide

theorem pack_nodup (df : Fmt) (S T : Vec) (src : Nat → Nat) : ((pack df S T src).map Prod.fst).Nodup := by
  have : (pack df S T src).map Prod.fst
      = (List.range (laneCount df / 2)).flatMap fun i => [i, laneCount df / 2 + i] := by
    simp [pack, List.map_flatMap]
  rw [this]; cases df <;> decide

theorem interleave_lt (df : Fmt) (S T : Vec) (src : Nat → Nat) :
    ∀ p ∈ interleave df S T src, p.1 < laneCount df := by
  intro p hp
  have := two_mul_half_laneCount df
  obtain ⟨i, hi, rfl | rfl⟩ := mem_interleave.mp hp <;> simp only <;> omega

theorem pack_lt (df : Fmt) (S T : Vec) (src : Nat → Nat) : ∀ p ∈ pack df S T src, p.1 < laneCount df := by
  intro p hp
  have := two_mul_half_laneCount df
  obtain ⟨i, hi, rfl | rfl⟩ := mem_pack.mp hp <;> simp only <;> omega

theorem lane_stage_interleave (df : Fmt) (S T : Vec) (src : Nat → Nat) (X : Vec) {k : Nat}
    (hk : k < laneCount df / 2) :
    lane (stage df (interleave df S T src) X) df (2 * k) = lane T df (src k) ∧
      lane (stage df (interleave df S T src) X) df (2 * k + 1) = lane S df (src k) :=
  ⟨lane_stage_of_mem df _ _ (interleave_lt df S T src) (interleave_nodup df S T src)
      (mem_interleave.mpr ⟨k, hk, .inl rfl⟩),
    lane_stage_of_mem df _ _ (interleave_lt df S T src) (interleave_nodup df S T src)
      (mem_interleave.mpr ⟨k, hk, .inr rfl⟩)⟩

theorem lane_stage_pack (df : Fmt) (S T : Vec) (src : Nat → Nat) (X : Vec) {k : Nat}
    (hk : k < laneCount df / 2) :
    lane (stage df (pack df S T src) X) df k = lane T df (src k) ∧
      lane (stage df (pack df S T src) X) df (laneCount df / 2 + k) = lane S df (src k) :=
  ⟨lane_stage_of_mem df _ _ (pack_lt df S T src) (pack_nodup df S T src) (mem_pack.mpr ⟨k, hk, .inl rfl⟩),
    lane_stage_of_mem df _ _ (pack_lt df S T src) (pack_nodup df S T src) (mem_pack.mpr ⟨k, hk, .inr rfl⟩)⟩

/-- The staged operations that compute every lane from its own number: `vshf` and `shf`. -/
theorem lane_stage_map (df : Fmt) (g : Nat → Lane df) (X : Vec) {k : Nat} (hk : k < laneCount df) :
    lane (stage df ((List.range (laneCount df)).map fun i => (i, g i)) X) df k = g k := by
  refine lane_stage_of_mem df _ _ (fun p hp => ?_) ?_ ?_
  · obtain ⟨i, hi, rfl⟩ := List.mem_map.mp hp; exact List.mem_range.mp hi
  · rw [List.map_map]; simpa [Function.comp_def] using List.nodup_range
  · exact List.mem_map.mpr ⟨k, List.mem_range.mpr hk, rfl⟩

theorem slide_byte_lt (df : Fmt) {g j : Nat} (hg : g < 16 / laneCount df) (hj : j < laneCount df) :
    laneCount df * g + j < 16 := by
  have h := Nat.mul_le_mul_left (laneCount df) (Nat.succ_le_of_lt hg)
  rw [laneCount_mul_groups, Nat.mul_succ] at h; omega

theorem lane_stage_slide (df : Fmt) (S D : Vec) (m : Nat) (X : Vec) {g j : Nat} (hg : g < 16 / laneCount df)
    (hj : j < laneCount df) :
    lane (stage .b (slide df S D m) X) .b (laneCount df * g + j)
      = slideByte S D (laneCount df) (laneCount df * g) (j + m) := by
  refine lane_stage_of_mem .b _ _ (fun p hp => ?_) ?_ ?_
  · simp only [slide, List.mem_flatMap, List.mem_map, List.mem_range] at hp
    obtain ⟨a, ha, b, hb, rfl⟩ := hp
    exact slide_byte_lt df ha hb
  · have : (slide df S D m).map Prod.fst = (List.range (16 / laneCount df)).flatMap fun g =>
        (List.range (laneCount df)).map fun j => laneCount df * g + j := by
      simp [slide, List.map_flatMap, Function.comp_def]
    rw [this]; cases df <;> decide
  · simp only [slide, List.mem_flatMap, List.mem_map, List.mem_range]
    exact ⟨g, hg, j, hj, rfl⟩

end Sys2Proof.Machine
end

