-- ==== Sys2Proof/Laws/Step.lean ====
section
/-! SUPPORT. All that a step can do, said once: an invariant of the machine is a case analysis on
`step_next_cases`. -/

namespace Sys2Proof.Machine

set_option Elab.async false

/-- The dispatcher's event `e` issues `i` with the scalar `g`: as a descriptor, or as a word that spells it. -/
def Issues (e : Event) (i : Instr) (g : Scalar) : Prop :=
  e = .descriptor i g ∨ ∃ w, e = .word w g ∧ decode w = .ok i

/-- The state an operation issued with the scalar `g` runs at, `rest` being what is issued after it. -/
abbrev issuedAt (s : State) (g : Scalar) (rest : List Event) : State :=
  driveGprIn { s with input := rest } g

theorem handle_of_issues {e : Event} {i : Instr} {g : Scalar} (h : Issues e i g) (s : State) :
    handle e s = handOver (driveGprIn s g) (exec i (driveGprIn s g)) := by
  obtain rfl | ⟨w, rfl, hw⟩ := h
  · rfl
  · rw [handle, issueWord, hw]; rfl

theorem step_of_issues {s : State} {e : Event} {i : Instr} {g : Scalar} {rest : List Event}
    (hin : s.input = e :: rest) (h : Issues e i g) :
    step s = handOver (issuedAt s g rest) (exec i (issuedAt s g rest)) := by
  rw [step, hin]; exact handle_of_issues h _

/-- A step that goes on takes the first event, and it is one of four: an operation that completes, an operation
whose fault is handed over, a clearing of `MODIFY`, another context's OR. -/
theorem step_next_cases {s t : State} (h : step s = .next t) :
    ∃ e rest, s.input = e :: rest ∧
      ((∃ i g, Issues e i g ∧ exec i (issuedAt s g rest) = .next t) ∨
       (∃ i g f, Issues e i g ∧ exec i (issuedAt s g rest) = .fault f ∧
          t = { issuedAt s g rest with faults := s.faults ++ [f] }) ∨
       (∃ m, e = .clearModify m ∧ t = clearModify { s with input := rest } m) ∨
       (∃ m, e = .contextOr m ∧ t = contextOr { s with input := rest } m)) := by
  rw [step] at h
  rcases hin : s.input with - | ⟨e, rest⟩
  · rw [hin] at h; cases h
  · rw [hin] at h
    refine ⟨e, rest, rfl, ?_⟩
    have issued : ∀ i g, Issues e i g → handOver (issuedAt s g rest) (exec i (issuedAt s g rest)) = .next t →
        (∃ i g, Issues e i g ∧ exec i (issuedAt s g rest) = .next t) ∨
        ∃ i g f, Issues e i g ∧ exec i (issuedAt s g rest) = .fault f ∧
          t = { issuedAt s g rest with faults := s.faults ++ [f] } := fun i g hi ho =>
      (handOver_eq_next.mp ho).imp (fun hx => ⟨i, g, hi, hx⟩) fun ⟨f, hf, ht⟩ => ⟨i, g, f, hi, hf, ht⟩
    cases e with
    | word w g =>
      rcases hw : decode w with why | i
      · simp only [handle, issueWord, hw] at h; cases h
      · have hi : Issues (.word w g) i g := .inr ⟨w, rfl, hw⟩
        exact (issued i g hi ((handle_of_issues hi _).symm.trans h)).imp_right .inl
    | descriptor i g => exact (issued i g (.inl rfl) h).imp_right .inl
    | clearModify m => cases h; exact .inr (.inr (.inl ⟨m, rfl, rfl⟩))
    | contextOr m => cases h; exact .inr (.inr (.inr ⟨m, rfl, rfl⟩))

/-! ## Runs of several steps -/

theorem run_zero (s : State) : core.run 0 s = .next s := rfl

theorem run_succ_of_next {s t : State} (k : Nat) (h : step s = .next t) : core.run (k + 1) s = core.run k t := by
  have h : core.step s = .next t := h
  simp only [Host.Core.run, h]

theorem run_succ_of_refused {s : State} {why : Refusal} (k : Nat) (h : step s = .refused why) :
    core.run (k + 1) s = .refused why := by
  have h : core.step s = .refused why := h
  simp only [Host.Core.run, h]

end Sys2Proof.Machine
end

