-- ==== Sys2Proof/Tests/Slice0.lean ====
section
/-! SUPPORT. The session's own tests: well-formedness, decoding, the spec's test vectors, and a witness for the
hypotheses of every obligation that has some. Expected results are the spec's: `spec/opcode_table.json` and
30_encoding for words, 95_test_vectors for results. -/

namespace Sys2Proof.Tests

set_option Elab.async false

open Machine

/-- A small state: `w1 = S`, `w2 = T`, `w3 = D`, every other register zero, tracking on. -/
def small (S T D : Nat) (g : GprLen := .w64) : State :=
  (((({ State.reset with
        w := Vector.replicate 32 0#128, params := { gprLen := g, trackEnable := true, magTie := .first } } : State).wr
    1 (BitVec.ofNat 128 S)).wr 2 (BitVec.ofNat 128 T)).wr 3 (BitVec.ofNat 128 D))

/-- The low `n` bits of `w3` after `i`. -/
def low (n : Nat) (i : Instr) (S T D x : Nat) : Bool :=
  match exec i (small S T D) with
  | .next t => (t.rd 3).toNat % 2 ^ n == x
  | _ => false

/-- The same with the scalar `g` on `gpr_in`. -/
def lowG (g n : Nat) (i : Instr) (S T D x : Nat) : Bool :=
  match exec i { small S T D with gprIn := BitVec.ofNat 64 g } with
  | .next t => (t.rd 3).toNat % 2 ^ n == x
  | _ => false

/-- The register patterns `S` and `T` of 95_test_vectors. -/
def vS : Nat := 0x0f0e0d0c0b0a09080706050403020100

/-- The register patterns `S` and `T` of 95_test_vectors. -/
def vT : Nat := 0x1f1e1d1c1b1a19181716151413121110

def allHold (l : List Bool) : Bool := l.all id

/-- Every word of the list decodes to the instruction beside it, and that instruction's word is it. -/
abbrev rowsDecode (l : List (Word32 × Instr)) : Prop :=
  ∀ p ∈ l, decodeTableWord 32 p.1.toNat = some p.2 ∧ encode p.2 = p.1

def isNext : Result → Bool
  | .next _ => true
  | _ => false

/-! ## Well-formedness: an ill-formed term for each check -/

theorem test_u5_too_large : (Instr.addviB 0 0 32).wellFormed = false := by decide
theorem test_s5_too_large : (Instr.maxiSW 0 0 16).wellFormed = false := by decide
theorem test_s5_too_small : (Instr.ceqiD 0 0 (-17)).wellFormed = false := by decide
theorem test_i8_too_large : (Instr.shfH 0 0 256).wellFormed = false := by decide
theorem test_s10_too_large : (Instr.ldiB 0 512).wellFormed = false := by decide
theorem test_s10_too_small : (Instr.ldiD 0 (-513)).wellFormed = false := by decide
theorem test_m_too_large : (Instr.slliH 0 0 16).wellFormed = false := by decide
theorem test_n_too_large :
    (Instr.splatiW 0 0 4).laneIndexOk = false ∧ (Instr.splatiW 0 0 4).encodable = false := by decide
theorem test_width_needed : (Instr.fillD 0 0).needsGprLen64 = true ∧ (Instr.fillW 0 0).needsGprLen64 = false := by
  decide
theorem test_boundaries_encodable :
    (Instr.addviB 0 0 31).encodable ∧ (Instr.maxiSW 0 0 15).encodable ∧ (Instr.ceqiD 0 0 (-16)).encodable ∧
    (Instr.shfH 0 0 255).encodable ∧ (Instr.ldiB 0 511).encodable ∧ (Instr.ldiD 0 (-512)).encodable ∧
    (Instr.slliH 0 0 15).encodable ∧ (Instr.splatiW 0 0 3).encodable := by decide

/-! ## Words that spell nothing, by name (R86, R91, R92, R99 to R107) -/

theorem test_reject_not_msa : decode 0x00000000#32 = .error .notMsa := rfl
theorem test_reject_minor : decode 0x78000003#32 = .error .reservedMinor := rfl
theorem test_reject_operation : decode 0x7880000f#32 = .error .reservedOperation := rfl
theorem test_reject_dotp_byte : decode 0x78000013#32 = .error .reservedFormat := rfl
theorem test_reject_df_m : decode 0x78780009#32 = .error .reservedFormat := rfl
theorem test_reject_df_n : decode 0x78100019#32 = .error .reservedFormat := rfl
theorem test_reject_copy_u_d : decode 0x78f80019#32 = .error .reservedFormat := rfl
theorem test_reject_shf_d : decode 0x7b000002#32 = .error .reservedFormat := rfl
theorem test_reject_load : decode 0x78000020#32 = .error .outsideBlock := rfl
theorem test_reject_float : decode 0x7800001a#32 = .error .outsideBlock := rfl
theorem test_reject_ctcmsa : decode 0x783e0019#32 = .error .outsideBlock := rfl

/-! ## Decoding, row by row

Each word is the row's fixed bits in `spec/opcode_table.json` with `wd` (or `rd`) = 3, `ws` (or `rs`) = 17,
`wt` (or `rt`) = 30, and the immediate at the value written beside it. -/

theorem test_decode_element : rowsDecode
    ([(0x788f88d9#32, .copySB 3 17 15), (0x78a788d9#32, .copySH 3 17 7), (0x78b388d9#32, .copySW 3 17 3),
      (0x78b988d9#32, .copySD 3 17 1), (0x78cf88d9#32, .copyUB 3 17 15), (0x78e788d9#32, .copyUH 3 17 7),
      (0x78f388d9#32, .copyUW 3 17 3), (0x790f88d9#32, .insertB 3 17 15), (0x792788d9#32, .insertH 3 17 7),
      (0x793388d9#32, .insertW 3 17 3), (0x793988d9#32, .insertD 3 17 1), (0x794f88d9#32, .insveB 3 17 15),
      (0x796788d9#32, .insveH 3 17 7), (0x797388d9#32, .insveW 3 17 3), (0x797988d9#32, .insveD 3 17 1),
      (0x7b0088de#32, .fillB 3 17), (0x7b0188de#32, .fillH 3 17), (0x7b0288de#32, .fillW 3 17),
      (0x7b0388de#32, .fillD 3 17), (0x78be88d9#32, .moveV 3 17)]) := by decide +kernel

theorem test_decode_addsub : rowsDecode
    ([(0x781e88ce#32, .addvB 3 17 30), (0x783e88ce#32, .addvH 3 17 30), (0x785e88ce#32, .addvW 3 17 30),
      (0x787e88ce#32, .addvD 3 17 30), (0x781d88c6#32, .addviB 3 17 29), (0x783d88c6#32, .addviH 3 17 29),
      (0x785d88c6#32, .addviW 3 17 29), (0x787d88c6#32, .addviD 3 17 29), (0x789e88ce#32, .subvB 3 17 30),
      (0x78be88ce#32, .subvH 3 17 30), (0x78de88ce#32, .subvW 3 17 30), (0x78fe88ce#32, .subvD 3 17 30),
      (0x789d88c6#32, .subviB 3 17 29), (0x78bd88c6#32, .subviH 3 17 29), (0x78dd88c6#32, .subviW 3 17 29),
      (0x78fd88c6#32, .subviD 3 17 29), (0x791e88d0#32, .addsSB 3 17 30), (0x793e88d0#32, .addsSH 3 17 30),
      (0x795e88d0#32, .addsSW 3 17 30), (0x797e88d0#32, .addsSD 3 17 30), (0x799e88d0#32, .addsUB 3 17 30),
      (0x79be88d0#32, .addsUH 3 17 30), (0x79de88d0#32, .addsUW 3 17 30), (0x79fe88d0#32, .addsUD 3 17 30),
      (0x781e88d1#32, .subsSB 3 17 30), (0x783e88d1#32, .subsSH 3 17 30), (0x785e88d1#32, .subsSW 3 17 30),
      (0x787e88d1#32, .subsSD 3 17 30), (0x789e88d1#32, .subsUB 3 17 30), (0x78be88d1#32, .subsUH 3 17 30),
      (0x78de88d1#32, .subsUW 3 17 30), (0x78fe88d1#32, .subsUD 3 17 30), (0x791e88d1#32, .subsusUB 3 17 30),
      (0x793e88d1#32, .subsusUH 3 17 30), (0x795e88d1#32, .subsusUW 3 17 30),
      (0x797e88d1#32, .subsusUD 3 17 30), (0x799e88d1#32, .subsuuSB 3 17 30),
      (0x79be88d1#32, .subsuuSH 3 17 30), (0x79de88d1#32, .subsuuSW 3 17 30),
      (0x79fe88d1#32, .subsuuSD 3 17 30)] ++
     [(0x7a1e88d1#32, .asubSB 3 17 30), (0x7a3e88d1#32, .asubSH 3 17 30), (0x7a5e88d1#32, .asubSW 3 17 30),
      (0x7a7e88d1#32, .asubSD 3 17 30), (0x7a9e88d1#32, .asubUB 3 17 30), (0x7abe88d1#32, .asubUH 3 17 30),
      (0x7ade88d1#32, .asubUW 3 17 30), (0x7afe88d1#32, .asubUD 3 17 30), (0x781e88d0#32, .addAB 3 17 30),
      (0x783e88d0#32, .addAH 3 17 30), (0x785e88d0#32, .addAW 3 17 30), (0x787e88d0#32, .addAD 3 17 30),
      (0x789e88d0#32, .addsAB 3 17 30), (0x78be88d0#32, .addsAH 3 17 30), (0x78de88d0#32, .addsAW 3 17 30),
      (0x78fe88d0#32, .addsAD 3 17 30), (0x7a1e88d0#32, .aveSB 3 17 30), (0x7a3e88d0#32, .aveSH 3 17 30),
      (0x7a5e88d0#32, .aveSW 3 17 30), (0x7a7e88d0#32, .aveSD 3 17 30), (0x7a9e88d0#32, .aveUB 3 17 30),
      (0x7abe88d0#32, .aveUH 3 17 30), (0x7ade88d0#32, .aveUW 3 17 30), (0x7afe88d0#32, .aveUD 3 17 30),
      (0x7b1e88d0#32, .averSB 3 17 30), (0x7b3e88d0#32, .averSH 3 17 30), (0x7b5e88d0#32, .averSW 3 17 30),
      (0x7b7e88d0#32, .averSD 3 17 30), (0x7b9e88d0#32, .averUB 3 17 30), (0x7bbe88d0#32, .averUH 3 17 30),
      (0x7bde88d0#32, .averUW 3 17 30), (0x7bfe88d0#32, .averUD 3 17 30)]) := by decide +kernel

theorem test_decode_minmax : rowsDecode
    ([(0x7b1e88ce#32, .maxAB 3 17 30), (0x7b3e88ce#32, .maxAH 3 17 30), (0x7b5e88ce#32, .maxAW 3 17 30),
      (0x7b7e88ce#32, .maxAD 3 17 30), (0x7b9e88ce#32, .minAB 3 17 30), (0x7bbe88ce#32, .minAH 3 17 30),
      (0x7bde88ce#32, .minAW 3 17 30), (0x7bfe88ce#32, .minAD 3 17 30), (0x791e88ce#32, .maxSB 3 17 30),
      (0x793e88ce#32, .maxSH 3 17 30), (0x795e88ce#32, .maxSW 3 17 30), (0x797e88ce#32, .maxSD 3 17 30),
      (0x799e88ce#32, .maxUB 3 17 30), (0x79be88ce#32, .maxUH 3 17 30), (0x79de88ce#32, .maxUW 3 17 30),
      (0x79fe88ce#32, .maxUD 3 17 30), (0x7a1e88ce#32, .minSB 3 17 30), (0x7a3e88ce#32, .minSH 3 17 30),
      (0x7a5e88ce#32, .minSW 3 17 30), (0x7a7e88ce#32, .minSD 3 17 30), (0x7a9e88ce#32, .minUB 3 17 30),
      (0x7abe88ce#32, .minUH 3 17 30), (0x7ade88ce#32, .minUW 3 17 30), (0x7afe88ce#32, .minUD 3 17 30),
      (0x791088c6#32, .maxiSB 3 17 (-16)), (0x793088c6#32, .maxiSH 3 17 (-16)),
      (0x795088c6#32, .maxiSW 3 17 (-16)), (0x797088c6#32, .maxiSD 3 17 (-16)),
      (0x799d88c6#32, .maxiUB 3 17 29), (0x79bd88c6#32, .maxiUH 3 17 29), (0x79dd88c6#32, .maxiUW 3 17 29),
      (0x79fd88c6#32, .maxiUD 3 17 29), (0x7a1088c6#32, .miniSB 3 17 (-16)),
      (0x7a3088c6#32, .miniSH 3 17 (-16)), (0x7a5088c6#32, .miniSW 3 17 (-16)),
      (0x7a7088c6#32, .miniSD 3 17 (-16)), (0x7a9d88c6#32, .miniUB 3 17 29), (0x7abd88c6#32, .miniUH 3 17 29),
      (0x7add88c6#32, .miniUW 3 17 29), (0x7afd88c6#32, .miniUD 3 17 29)] ++
     [(0x781e88cf#32, .ceqB 3 17 30), (0x783e88cf#32, .ceqH 3 17 30), (0x785e88cf#32, .ceqW 3 17 30),
      (0x787e88cf#32, .ceqD 3 17 30), (0x781088c7#32, .ceqiB 3 17 (-16)), (0x783088c7#32, .ceqiH 3 17 (-16)),
      (0x785088c7#32, .ceqiW 3 17 (-16)), (0x787088c7#32, .ceqiD 3 17 (-16)), (0x791e88cf#32, .cltSB 3 17 30),
      (0x793e88cf#32, .cltSH 3 17 30), (0x795e88cf#32, .cltSW 3 17 30), (0x797e88cf#32, .cltSD 3 17 30),
      (0x799e88cf#32, .cltUB 3 17 30), (0x79be88cf#32, .cltUH 3 17 30), (0x79de88cf#32, .cltUW 3 17 30),
      (0x79fe88cf#32, .cltUD 3 17 30), (0x791088c7#32, .cltiSB 3 17 (-16)),
      (0x793088c7#32, .cltiSH 3 17 (-16)), (0x795088c7#32, .cltiSW 3 17 (-16)),
      (0x797088c7#32, .cltiSD 3 17 (-16)), (0x799d88c7#32, .cltiUB 3 17 29), (0x79bd88c7#32, .cltiUH 3 17 29),
      (0x79dd88c7#32, .cltiUW 3 17 29), (0x79fd88c7#32, .cltiUD 3 17 29), (0x7a1e88cf#32, .cleSB 3 17 30),
      (0x7a3e88cf#32, .cleSH 3 17 30), (0x7a5e88cf#32, .cleSW 3 17 30), (0x7a7e88cf#32, .cleSD 3 17 30),
      (0x7a9e88cf#32, .cleUB 3 17 30), (0x7abe88cf#32, .cleUH 3 17 30), (0x7ade88cf#32, .cleUW 3 17 30),
      (0x7afe88cf#32, .cleUD 3 17 30), (0x7a1088c7#32, .cleiSB 3 17 (-16)),
      (0x7a3088c7#32, .cleiSH 3 17 (-16)), (0x7a5088c7#32, .cleiSW 3 17 (-16)),
      (0x7a7088c7#32, .cleiSD 3 17 (-16)), (0x7a9d88c7#32, .cleiUB 3 17 29), (0x7abd88c7#32, .cleiUH 3 17 29),
      (0x7add88c7#32, .cleiUW 3 17 29), (0x7afd88c7#32, .cleiUD 3 17 29)]) := by decide +kernel

theorem test_decode_muldiv : rowsDecode
    ([(0x7a3e88d5#32, .haddSH 3 17 30), (0x7a5e88d5#32, .haddSW 3 17 30), (0x7a7e88d5#32, .haddSD 3 17 30),
      (0x7abe88d5#32, .haddUH 3 17 30), (0x7ade88d5#32, .haddUW 3 17 30), (0x7afe88d5#32, .haddUD 3 17 30),
      (0x7b3e88d5#32, .hsubSH 3 17 30), (0x7b5e88d5#32, .hsubSW 3 17 30), (0x7b7e88d5#32, .hsubSD 3 17 30),
      (0x7bbe88d5#32, .hsubUH 3 17 30), (0x7bde88d5#32, .hsubUW 3 17 30), (0x7bfe88d5#32, .hsubUD 3 17 30),
      (0x783e88d3#32, .dotpSH 3 17 30), (0x785e88d3#32, .dotpSW 3 17 30), (0x787e88d3#32, .dotpSD 3 17 30),
      (0x78be88d3#32, .dotpUH 3 17 30), (0x78de88d3#32, .dotpUW 3 17 30), (0x78fe88d3#32, .dotpUD 3 17 30),
      (0x793e88d3#32, .dpaddSH 3 17 30), (0x795e88d3#32, .dpaddSW 3 17 30), (0x797e88d3#32, .dpaddSD 3 17 30),
      (0x79be88d3#32, .dpaddUH 3 17 30), (0x79de88d3#32, .dpaddUW 3 17 30), (0x79fe88d3#32, .dpaddUD 3 17 30),
      (0x7a3e88d3#32, .dpsubSH 3 17 30), (0x7a5e88d3#32, .dpsubSW 3 17 30), (0x7a7e88d3#32, .dpsubSD 3 17 30),
      (0x7abe88d3#32, .dpsubUH 3 17 30), (0x7ade88d3#32, .dpsubUW 3 17 30), (0x7afe88d3#32, .dpsubUD 3 17 30),
      (0x781e88d2#32, .mulvB 3 17 30), (0x783e88d2#32, .mulvH 3 17 30), (0x785e88d2#32, .mulvW 3 17 30),
      (0x787e88d2#32, .mulvD 3 17 30), (0x789e88d2#32, .maddvB 3 17 30), (0x78be88d2#32, .maddvH 3 17 30),
      (0x78de88d2#32, .maddvW 3 17 30), (0x78fe88d2#32, .maddvD 3 17 30), (0x791e88d2#32, .msubvB 3 17 30),
      (0x793e88d2#32, .msubvH 3 17 30)] ++
     [(0x795e88d2#32, .msubvW 3 17 30), (0x797e88d2#32, .msubvD 3 17 30), (0x7a1e88d2#32, .divSB 3 17 30),
      (0x7a3e88d2#32, .divSH 3 17 30), (0x7a5e88d2#32, .divSW 3 17 30), (0x7a7e88d2#32, .divSD 3 17 30),
      (0x7a9e88d2#32, .divUB 3 17 30), (0x7abe88d2#32, .divUH 3 17 30), (0x7ade88d2#32, .divUW 3 17 30),
      (0x7afe88d2#32, .divUD 3 17 30), (0x7b1e88d2#32, .modSB 3 17 30), (0x7b3e88d2#32, .modSH 3 17 30),
      (0x7b5e88d2#32, .modSW 3 17 30), (0x7b7e88d2#32, .modSD 3 17 30), (0x7b9e88d2#32, .modUB 3 17 30),
      (0x7bbe88d2#32, .modUH 3 17 30), (0x7bde88d2#32, .modUW 3 17 30), (0x7bfe88d2#32, .modUD 3 17 30)]) := by decide +kernel

theorem test_decode_fixedpoint : rowsDecode
    ([(0x791e88dc#32, .mulQH 3 17 30), (0x793e88dc#32, .mulQW 3 17 30), (0x7b1e88dc#32, .mulrQH 3 17 30),
      (0x7b3e88dc#32, .mulrQW 3 17 30), (0x795e88dc#32, .maddQH 3 17 30), (0x797e88dc#32, .maddQW 3 17 30),
      (0x7b5e88dc#32, .maddrQH 3 17 30), (0x7b7e88dc#32, .maddrQW 3 17 30), (0x799e88dc#32, .msubQH 3 17 30),
      (0x79be88dc#32, .msubQW 3 17 30), (0x7b9e88dc#32, .msubrQH 3 17 30), (0x7bbe88dc#32, .msubrQW 3 17 30)]) := by decide +kernel

theorem test_decode_bitops : rowsDecode
    ([(0x799e88cd#32, .bclrB 3 17 30), (0x79be88cd#32, .bclrH 3 17 30), (0x79de88cd#32, .bclrW 3 17 30),
      (0x79fe88cd#32, .bclrD 3 17 30), (0x79f688c9#32, .bclriB 3 17 6), (0x79ee88c9#32, .bclriH 3 17 14),
      (0x79de88c9#32, .bclriW 3 17 30), (0x79be88c9#32, .bclriD 3 17 62), (0x7a1e88cd#32, .bsetB 3 17 30),
      (0x7a3e88cd#32, .bsetH 3 17 30), (0x7a5e88cd#32, .bsetW 3 17 30), (0x7a7e88cd#32, .bsetD 3 17 30),
      (0x7a7688c9#32, .bsetiB 3 17 6), (0x7a6e88c9#32, .bsetiH 3 17 14), (0x7a5e88c9#32, .bsetiW 3 17 30),
      (0x7a3e88c9#32, .bsetiD 3 17 62), (0x7a9e88cd#32, .bnegB 3 17 30), (0x7abe88cd#32, .bnegH 3 17 30),
      (0x7ade88cd#32, .bnegW 3 17 30), (0x7afe88cd#32, .bnegD 3 17 30), (0x7af688c9#32, .bnegiB 3 17 6),
      (0x7aee88c9#32, .bnegiH 3 17 14), (0x7ade88c9#32, .bnegiW 3 17 30), (0x7abe88c9#32, .bnegiD 3 17 62),
      (0x7b1e88cd#32, .binslB 3 17 30), (0x7b3e88cd#32, .binslH 3 17 30), (0x7b5e88cd#32, .binslW 3 17 30),
      (0x7b7e88cd#32, .binslD 3 17 30), (0x7b7688c9#32, .binsliB 3 17 6), (0x7b6e88c9#32, .binsliH 3 17 14),
      (0x7b5e88c9#32, .binsliW 3 17 30), (0x7b3e88c9#32, .binsliD 3 17 62), (0x7b9e88cd#32, .binsrB 3 17 30),
      (0x7bbe88cd#32, .binsrH 3 17 30), (0x7bde88cd#32, .binsrW 3 17 30), (0x7bfe88cd#32, .binsrD 3 17 30),
      (0x7bf688c9#32, .binsriB 3 17 6), (0x7bee88c9#32, .binsriH 3 17 14), (0x7bde88c9#32, .binsriW 3 17 30),
      (0x7bbe88c9#32, .binsriD 3 17 62)] ++
     [(0x787688ca#32, .satSB 3 17 6), (0x786e88ca#32, .satSH 3 17 14), (0x785e88ca#32, .satSW 3 17 30),
      (0x783e88ca#32, .satSD 3 17 62), (0x78f688ca#32, .satUB 3 17 6), (0x78ee88ca#32, .satUH 3 17 14),
      (0x78de88ca#32, .satUW 3 17 30), (0x78be88ca#32, .satUD 3 17 62), (0x7b0488de#32, .pcntB 3 17),
      (0x7b0588de#32, .pcntH 3 17), (0x7b0688de#32, .pcntW 3 17), (0x7b0788de#32, .pcntD 3 17),
      (0x7b0888de#32, .nlocB 3 17), (0x7b0988de#32, .nlocH 3 17), (0x7b0a88de#32, .nlocW 3 17),
      (0x7b0b88de#32, .nlocD 3 17), (0x7b0c88de#32, .nlzcB 3 17), (0x7b0d88de#32, .nlzcH 3 17),
      (0x7b0e88de#32, .nlzcW 3 17), (0x7b0f88de#32, .nlzcD 3 17)]) := by decide +kernel

theorem test_decode_logic : rowsDecode
    ([(0x781e88de#32, .andV 3 17 30), (0x783e88de#32, .orV 3 17 30), (0x785e88de#32, .norV 3 17 30),
      (0x787e88de#32, .xorV 3 17 30), (0x78c588c0#32, .andiB 3 17 197), (0x79c588c0#32, .oriB 3 17 197),
      (0x7ac588c0#32, .noriB 3 17 197), (0x7bc588c0#32, .xoriB 3 17 197), (0x789e88de#32, .bmnzV 3 17 30),
      (0x78be88de#32, .bmzV 3 17 30), (0x78de88de#32, .bselV 3 17 30), (0x78c588c1#32, .bmnziB 3 17 197),
      (0x79c588c1#32, .bmziB 3 17 197), (0x7ac588c1#32, .bseliB 3 17 197)]) := by decide +kernel

theorem test_decode_shift : rowsDecode
    ([(0x781e88cd#32, .sllB 3 17 30), (0x783e88cd#32, .sllH 3 17 30), (0x785e88cd#32, .sllW 3 17 30),
      (0x787e88cd#32, .sllD 3 17 30), (0x787688c9#32, .slliB 3 17 6), (0x786e88c9#32, .slliH 3 17 14),
      (0x785e88c9#32, .slliW 3 17 30), (0x783e88c9#32, .slliD 3 17 62), (0x789e88cd#32, .sraB 3 17 30),
      (0x78be88cd#32, .sraH 3 17 30), (0x78de88cd#32, .sraW 3 17 30), (0x78fe88cd#32, .sraD 3 17 30),
      (0x78f688c9#32, .sraiB 3 17 6), (0x78ee88c9#32, .sraiH 3 17 14), (0x78de88c9#32, .sraiW 3 17 30),
      (0x78be88c9#32, .sraiD 3 17 62), (0x791e88cd#32, .srlB 3 17 30), (0x793e88cd#32, .srlH 3 17 30),
      (0x795e88cd#32, .srlW 3 17 30), (0x797e88cd#32, .srlD 3 17 30), (0x797688c9#32, .srliB 3 17 6),
      (0x796e88c9#32, .srliH 3 17 14), (0x795e88c9#32, .srliW 3 17 30), (0x793e88c9#32, .srliD 3 17 62),
      (0x789e88d5#32, .srarB 3 17 30), (0x78be88d5#32, .srarH 3 17 30), (0x78de88d5#32, .srarW 3 17 30),
      (0x78fe88d5#32, .srarD 3 17 30), (0x797688ca#32, .srariB 3 17 6), (0x796e88ca#32, .srariH 3 17 14),
      (0x795e88ca#32, .srariW 3 17 30), (0x793e88ca#32, .srariD 3 17 62), (0x791e88d5#32, .srlrB 3 17 30),
      (0x793e88d5#32, .srlrH 3 17 30), (0x795e88d5#32, .srlrW 3 17 30), (0x797e88d5#32, .srlrD 3 17 30),
      (0x79f688ca#32, .srlriB 3 17 6), (0x79ee88ca#32, .srlriH 3 17 14), (0x79de88ca#32, .srlriW 3 17 30),
      (0x79be88ca#32, .srlriD 3 17 62)]) := by decide +kernel

theorem test_decode_permute : rowsDecode
    ([(0x7b1e88d4#32, .ilvevB 3 17 30), (0x7b3e88d4#32, .ilvevH 3 17 30), (0x7b5e88d4#32, .ilvevW 3 17 30),
      (0x7b7e88d4#32, .ilvevD 3 17 30), (0x7b9e88d4#32, .ilvodB 3 17 30), (0x7bbe88d4#32, .ilvodH 3 17 30),
      (0x7bde88d4#32, .ilvodW 3 17 30), (0x7bfe88d4#32, .ilvodD 3 17 30), (0x7a1e88d4#32, .ilvlB 3 17 30),
      (0x7a3e88d4#32, .ilvlH 3 17 30), (0x7a5e88d4#32, .ilvlW 3 17 30), (0x7a7e88d4#32, .ilvlD 3 17 30),
      (0x7a9e88d4#32, .ilvrB 3 17 30), (0x7abe88d4#32, .ilvrH 3 17 30), (0x7ade88d4#32, .ilvrW 3 17 30),
      (0x7afe88d4#32, .ilvrD 3 17 30), (0x791e88d4#32, .pckevB 3 17 30), (0x793e88d4#32, .pckevH 3 17 30),
      (0x795e88d4#32, .pckevW 3 17 30), (0x797e88d4#32, .pckevD 3 17 30), (0x799e88d4#32, .pckodB 3 17 30),
      (0x79be88d4#32, .pckodH 3 17 30), (0x79de88d4#32, .pckodW 3 17 30), (0x79fe88d4#32, .pckodD 3 17 30),
      (0x781e88d5#32, .vshfB 3 17 30), (0x783e88d5#32, .vshfH 3 17 30), (0x785e88d5#32, .vshfW 3 17 30),
      (0x787e88d5#32, .vshfD 3 17 30), (0x78c588c2#32, .shfB 3 17 197), (0x79c588c2#32, .shfH 3 17 197),
      (0x7ac588c2#32, .shfW 3 17 197), (0x781e88d4#32, .sldB 3 17 30), (0x783e88d4#32, .sldH 3 17 30),
      (0x785e88d4#32, .sldW 3 17 30), (0x787e88d4#32, .sldD 3 17 30), (0x780f88d9#32, .sldiB 3 17 15),
      (0x782788d9#32, .sldiH 3 17 7), (0x783388d9#32, .sldiW 3 17 3), (0x783988d9#32, .sldiD 3 17 1),
      (0x789e88d4#32, .splatB 3 17 30)] ++
     [(0x78be88d4#32, .splatH 3 17 30), (0x78de88d4#32, .splatW 3 17 30), (0x78fe88d4#32, .splatD 3 17 30),
      (0x784f88d9#32, .splatiB 3 17 15), (0x786788d9#32, .splatiH 3 17 7), (0x787388d9#32, .splatiW 3 17 3),
      (0x787988d9#32, .splatiD 3 17 1), (0x7b1008c7#32, .ldiB 3 (-511)), (0x7b3008c7#32, .ldiH 3 (-511)),
      (0x7b5008c7#32, .ldiW 3 (-511)), (0x7b7008c7#32, .ldiD 3 (-511))]) := by decide +kernel

/-! ## The spec's test vectors (95_test_vectors sections 2.1 to 2.3): at most two for each operation

`low n i S T D x`: with `w1 = S`, `w2 = T`, `w3 = D`, the instruction `i`, whose destination is `w3`, leaves a
value whose low `n` bits are `x`. -/

theorem test_vectors_addsub : allHold
    ([low 8 (.addvB 3 1 2) 0x7f 0x01 0 0x80,
      low 64 (.addvD 3 1 2) 0xffffffffffffffff 0x0000000000000001 0 0x0000000000000000,
      low 32 (.addviW 3 1 1) 0xffffffff 0 0 0x00000000,
      low 8 (.addviB 3 1 31) 0x7f 0 0 0x9e,
      low 16 (.subvH 3 1 2) 0x0000 0x0001 0 0xffff,
      low 8 (.subvB 3 1 2) 0x80 0x01 0 0x7f,
      low 8 (.subviB 3 1 31) 0x00 0 0 0xe1,
      low 8 (.addsSB 3 1 2) 0x7f 0x01 0 0x7f,
      low 64 (.addsSD 3 1 2) 0x8000000000000000 0xffffffffffffffff 0 0x8000000000000000,
      low 8 (.addsUB 3 1 2) 0xc8 0x64 0 0xff,
      low 64 (.addsUD 3 1 2) 0xffffffffffffffff 0x0000000000000001 0 0xffffffffffffffff,
      low 16 (.subsSH 3 1 2) 0x8000 0x0001 0 0x8000,
      low 8 (.subsSB 3 1 2) 0x00 0x80 0 0x7f,
      low 8 (.subsUB 3 1 2) 0x05 0x0a 0 0x00,
      low 32 (.subsUW 3 1 2) 0x0000000a 0x00000005 0 0x00000005,
      low 8 (.subsusUB 3 1 2) 0xf0 0x90 0 0xff,
      low 8 (.subsusUB 3 1 2) 0x0a 0x14 0 0x00,
      low 8 (.subsuuSB 3 1 2) 0xff 0x00 0 0x7f,
      low 8 (.subsuuSB 3 1 2) 0x00 0xff 0 0x80,
      low 8 (.asubSB 3 1 2) 0x7f 0x80 0 0xff,
      low 32 (.asubSW 3 1 2) 0xfffffffd 0x00000005 0 0x00000008,
      low 8 (.asubUB 3 1 2) 0x00 0xff 0 0xff,
      low 8 (.addAB 3 1 2) 0x80 0x01 0 0x81,
      low 64 (.addAD 3 1 2) 0x8000000000000000 0x0000000000000000 0 0x8000000000000000,
      low 8 (.addsAB 3 1 2) 0x80 0x01 0 0x7f,
      low 64 (.addsAD 3 1 2) 0x8000000000000000 0x8000000000000000 0 0x7fffffffffffffff,
      low 8 (.aveSB 3 1 2) 0xff 0x00 0 0xff,
      low 8 (.aveSB 3 1 2) 0xfd 0x00 0 0xfe,
      low 8 (.aveUB 3 1 2) 0xff 0xff 0 0xff,
      low 8 (.aveUB 3 1 2) 0x01 0x02 0 0x01,
      low 8 (.averSB 3 1 2) 0xff 0x00 0 0x00,
      low 8 (.averSB 3 1 2) 0x80 0x80 0 0x80,
      low 8 (.averUB 3 1 2) 0x01 0x02 0 0x02,
      low 8 (.averUB 3 1 2) 0xff 0xff 0 0xff]) = true := by decide +kernel

theorem test_vectors_minmax : allHold
    ([low 8 (.maxAB 3 1 2) 0xfd 0x02 0 0xfd,
      low 8 (.maxAB 3 1 2) 0x80 0x7f 0 0x80,
      low 8 (.minAB 3 1 2) 0xfd 0x02 0 0x02,
      low 8 (.minAB 3 1 2) 0x80 0x7f 0 0x7f,
      low 8 (.maxSB 3 1 2) 0xff 0x01 0 0x01,
      low 8 (.maxUB 3 1 2) 0xff 0x01 0 0xff,
      low 8 (.minSB 3 1 2) 0xff 0x01 0 0xff,
      low 8 (.minUB 3 1 2) 0xff 0x01 0 0x01,
      low 16 (.maxiSH 3 1 (-16)) 0xfffb 0 0 0xfffb,
      low 8 (.maxiSB 3 1 (-16)) 0x80 0 0 0xf0,
      low 32 (.maxiUW 3 1 31) 0x00000003 0 0 0x0000001f,
      low 8 (.maxiUB 3 1 31) 0xff 0 0 0xff,
      low 16 (.miniSH 3 1 (-16)) 0xfffb 0 0 0xfff0,
      low 8 (.miniSB 3 1 15) 0x7f 0 0 0x0f,
      low 32 (.miniUW 3 1 31) 0x00000003 0 0 0x00000003,
      low 8 (.miniUB 3 1 0) 0xff 0 0 0x00,
      low 64 (.ceqD 3 1 2) 0x0000000000000005 0x0000000000000005 0 0xffffffffffffffff,
      low 64 (.ceqD 3 1 2) 0x0000000000000005 0x0000000000000006 0 0x0000000000000000,
      low 32 (.ceqiW 3 1 (-1)) 0xffffffff 0 0 0xffffffff,
      low 8 (.ceqiB 3 1 (-1)) 0x1f 0 0 0x00,
      low 8 (.cltSB 3 1 2) 0xff 0x00 0 0xff,
      low 8 (.cltUB 3 1 2) 0xff 0x00 0 0x00,
      low 8 (.cltiSB 3 1 (-16)) 0xef 0 0 0xff,
      low 8 (.cltiUB 3 1 31) 0xc8 0 0 0x00,
      low 8 (.cltiUB 3 1 0) 0x00 0 0 0x00,
      low 16 (.cleSH 3 1 2) 0x0007 0x0007 0 0xffff,
      low 16 (.cleUH 3 1 2) 0xffff 0x0000 0 0x0000,
      low 64 (.cleiSD 3 1 15) 0x000000000000000f 0 0 0xffffffffffffffff,
      low 64 (.cleiUD 3 1 0) 0x0000000000000000 0 0 0xffffffffffffffff]) = true := by decide +kernel

theorem test_vectors_muldiv : allHold
    ([low 16 (.haddSH 3 1 2) 0x80ff 0x017f 0 0xffff,
      low 16 (.haddUH 3 1 2) 0x80ff 0x017f 0 0x00ff,
      low 16 (.hsubSH 3 1 2) 0x80ff 0x017f 0 0xff01,
      low 16 (.hsubUH 3 1 2) 0x80ff 0x017f 0 0x0001,
      low 16 (.hsubUH 3 1 2) 0x00ff 0x00ff 0 0xff01,
      low 16 (.dotpSH 3 1 2) 0x8080 0x8080 0 0x8000,
      low 64 (.dotpSD 3 1 2) 0x8000000080000000 0x8000000080000000 0 0x8000000000000000,
      low 16 (.dotpUH 3 1 2) 0xffff 0xffff 0 0xfc02,
      low 16 (.dpaddSH 3 1 2) 0x0203 0x0405 0x0001 0x0018,
      low 16 (.dpaddUH 3 1 2) 0x0101 0x0101 0xffff 0x0001,
      low 16 (.dpsubSH 3 1 2) 0x0203 0x0405 0x0000 0xffe9,
      low 16 (.dpsubUH 3 1 2) 0x0101 0x0101 0x0000 0xfffe,
      low 8 (.mulvB 3 1 2) 0x10 0x10 0 0x00,
      low 64 (.mulvD 3 1 2) 0xffffffffffffffff 0xffffffffffffffff 0 0x0000000000000001,
      low 16 (.maddvH 3 1 2) 0x0003 0x0004 0x0001 0x000d,
      low 16 (.msubvH 3 1 2) 0x0003 0x0004 0x0001 0xfff5,
      low 8 (.divSB 3 1 2) 0x07 0x02 0 0x03,
      low 8 (.divSB 3 1 2) 0xf9 0x02 0 0xfd,
      low 8 (.divUB 3 1 2) 0xff 0x02 0 0x7f,
      low 8 (.divUB 3 1 2) 0x09 0x00 0 0x00,
      low 8 (.modSB 3 1 2) 0x07 0x02 0 0x01,
      low 8 (.modSB 3 1 2) 0xf9 0x02 0 0xff,
      low 8 (.modUB 3 1 2) 0xff 0x02 0 0x01,
      low 8 (.modUB 3 1 2) 0x09 0x00 0 0x00]) = true := by decide +kernel

theorem test_vectors_fixedpoint : allHold
    ([low 16 (.mulQH 3 1 2) 0x8000 0x8000 0 0x7fff,
      low 16 (.mulQH 3 1 2) 0x4000 0x4000 0 0x2000,
      low 16 (.mulrQH 3 1 2) 0x0001 0x4000 0 0x0001,
      low 16 (.mulrQH 3 1 2) 0xffff 0x0001 0 0x0000,
      low 16 (.maddQH 3 1 2) 0x4000 0x4000 0x1000 0x3000,
      low 16 (.maddQH 3 1 2) 0x4000 0x4000 0x7fff 0x7fff,
      low 16 (.maddrQH 3 1 2) 0x0001 0x4000 0x0000 0x0001,
      low 16 (.msubQH 3 1 2) 0x4000 0x4000 0x1000 0xf000,
      low 16 (.msubQH 3 1 2) 0x4000 0x4000 0x8000 0x8000,
      low 16 (.msubrQH 3 1 2) 0x0001 0x4000 0x0000 0x0000,
      low 16 (.msubrQH 3 1 2) 0xffff 0x4000 0x0000 0x0001]) = true := by decide +kernel

theorem test_vectors_bitops : allHold
    ([low 8 (.bclrB 3 1 2) 0xff 0x09 0 0xfd,
      low 64 (.bclriD 3 1 63) 0xffffffffffffffff 0 0 0x7fffffffffffffff,
      low 16 (.bsetH 3 1 2) 0x0000 0x000f 0 0x8000,
      low 8 (.bsetiB 3 1 7) 0x00 0 0 0x80,
      low 32 (.bnegW 3 1 2) 0x00000001 0x00000020 0 0x00000000,
      low 16 (.bnegiH 3 1 0) 0x00ff 0 0 0x00fe,
      low 8 (.binslB 3 1 2) 0xff 0x02 0x00 0xe0,
      low 8 (.binslB 3 1 2) 0x00 0x02 0xff 0x1f,
      low 32 (.binsliW 3 1 0) 0x80000001 0 0x00000000 0x80000000,
      low 8 (.binsrB 3 1 2) 0xff 0x02 0x00 0x07,
      low 8 (.binsrB 3 1 2) 0x00 0x02 0xff 0xf8,
      low 32 (.binsriW 3 1 0) 0x80000001 0 0x00000000 0x00000001,
      low 8 (.satSB 3 1 3) 0x64 0 0 0x07,
      low 8 (.satSB 3 1 3) 0x9c 0 0 0xf8,
      low 8 (.satUB 3 1 3) 0x64 0 0 0x0f,
      low 8 (.satUB 3 1 7) 0xff 0 0 0xff,
      low 8 (.pcntB 3 1) 0xff 0 0 0x08,
      low 64 (.pcntD 3 1) 0xffffffffffffffff 0 0 0x0000000000000040,
      low 8 (.nlocB 3 1) 0xff 0 0 0x08,
      low 8 (.nlocB 3 1) 0xf0 0 0 0x04,
      low 8 (.nlzcB 3 1) 0x00 0 0 0x08,
      low 8 (.nlzcB 3 1) 0x01 0 0 0x07]) = true := by decide +kernel

theorem test_vectors_logic : allHold
    ([low 128 (.andV 3 1 2) 0x0f0f0f0f0f0f0f0f0f0f0f0f0f0f0f0f 0x33333333333333333333333333333333 0x10101010101010101010101010101010 0x03030303030303030303030303030303,
      low 128 (.orV 3 1 2) 0x0f0f0f0f0f0f0f0f0f0f0f0f0f0f0f0f 0x33333333333333333333333333333333 0x10101010101010101010101010101010 0x3f3f3f3f3f3f3f3f3f3f3f3f3f3f3f3f,
      low 128 (.norV 3 1 2) 0x0f0f0f0f0f0f0f0f0f0f0f0f0f0f0f0f 0x33333333333333333333333333333333 0x10101010101010101010101010101010 0xc0c0c0c0c0c0c0c0c0c0c0c0c0c0c0c0,
      low 128 (.xorV 3 1 2) 0x0f0f0f0f0f0f0f0f0f0f0f0f0f0f0f0f 0x33333333333333333333333333333333 0x10101010101010101010101010101010 0x3c3c3c3c3c3c3c3c3c3c3c3c3c3c3c3c,
      low 128 (.andiB 3 1 0x0f) 0x0f0f0f0f0f0f0f0f0f0f0f0f0f0f0f0f 0 0x10101010101010101010101010101010 0x0f0f0f0f0f0f0f0f0f0f0f0f0f0f0f0f,
      low 128 (.oriB 3 1 0x80) 0x0f0f0f0f0f0f0f0f0f0f0f0f0f0f0f0f 0 0x10101010101010101010101010101010 0x8f8f8f8f8f8f8f8f8f8f8f8f8f8f8f8f,
      low 128 (.noriB 3 1 0x00) 0x0f0f0f0f0f0f0f0f0f0f0f0f0f0f0f0f 0 0x10101010101010101010101010101010 0xf0f0f0f0f0f0f0f0f0f0f0f0f0f0f0f0,
      low 128 (.xoriB 3 1 0xff) 0x0f0f0f0f0f0f0f0f0f0f0f0f0f0f0f0f 0 0x10101010101010101010101010101010 0xf0f0f0f0f0f0f0f0f0f0f0f0f0f0f0f0,
      low 128 (.bmnzV 3 1 2) 0x0f0f0f0f0f0f0f0f0f0f0f0f0f0f0f0f 0x33333333333333333333333333333333 0x10101010101010101010101010101010 0x03030303030303030303030303030303,
      low 128 (.bmzV 3 1 2) 0x0f0f0f0f0f0f0f0f0f0f0f0f0f0f0f0f 0x33333333333333333333333333333333 0x10101010101010101010101010101010 0x1c1c1c1c1c1c1c1c1c1c1c1c1c1c1c1c,
      low 128 (.bselV 3 1 2) 0x0f0f0f0f0f0f0f0f0f0f0f0f0f0f0f0f 0x33333333333333333333333333333333 0x10101010101010101010101010101010 0x1f1f1f1f1f1f1f1f1f1f1f1f1f1f1f1f,
      low 128 (.bmnziB 3 1 0xf0) 0x0f0f0f0f0f0f0f0f0f0f0f0f0f0f0f0f 0 0x10101010101010101010101010101010 0x00000000000000000000000000000000,
      low 128 (.bmziB 3 1 0xf0) 0x0f0f0f0f0f0f0f0f0f0f0f0f0f0f0f0f 0 0x10101010101010101010101010101010 0x1f1f1f1f1f1f1f1f1f1f1f1f1f1f1f1f,
      low 128 (.bseliB 3 1 0xf0) 0x0f0f0f0f0f0f0f0f0f0f0f0f0f0f0f0f 0 0x10101010101010101010101010101010 0x1f1f1f1f1f1f1f1f1f1f1f1f1f1f1f1f]) = true := by decide +kernel

theorem test_vectors_shift : allHold
    ([low 8 (.sllB 3 1 2) 0x81 0x01 0 0x02,
      low 8 (.sllB 3 1 2) 0x81 0x08 0 0x81,
      low 64 (.slliD 3 1 63) 0x0000000000000001 0 0 0x8000000000000000,
      low 8 (.sraB 3 1 2) 0x80 0x07 0 0xff,
      low 8 (.sraB 3 1 2) 0x80 0x09 0 0xc0,
      low 64 (.sraiD 3 1 63) 0xffffffffffffffff 0 0 0xffffffffffffffff,
      low 8 (.srlB 3 1 2) 0x80 0x07 0 0x01,
      low 8 (.srlB 3 1 2) 0xff 0x08 0 0xff,
      low 16 (.srliH 3 1 15) 0x8000 0 0 0x0001,
      low 32 (.srarW 3 1 2) 0xfffffffb 0x00000001 0 0xfffffffe,
      low 8 (.srarB 3 1 2) 0x40 0x07 0 0x01,
      low 16 (.srariH 3 1 1) 0xfffd 0 0 0xffff,
      low 8 (.srlrB 3 1 2) 0xff 0x01 0 0x80,
      low 8 (.srlrB 3 1 2) 0xff 0x07 0 0x02,
      low 32 (.srlriW 3 1 2) 0x00000006 0 0 0x00000002]) = true := by decide +kernel

theorem test_vectors_permute : allHold
    ([low 128 (.ilvevB 3 1 2) vS vT 0 0x0e1e0c1c0a1a08180616041402120010,
      low 128 (.ilvevH 3 1 2) vS vT 0 0x0d0c1d1c090819180504151401001110,
      low 128 (.ilvodB 3 1 2) vS vT 0 0x0f1f0d1d0b1b09190717051503130111,
      low 128 (.ilvodH 3 1 2) vS vT 0 0x0f0e1f1e0b0a1b1a0706171603021312,
      low 128 (.ilvlB 3 1 2) vS vT 0 0x0f1f0e1e0d1d0c1c0b1b0a1a09190818,
      low 128 (.ilvlH 3 1 2) vS vT 0 0x0f0e1f1e0d0c1d1c0b0a1b1a09081918,
      low 128 (.ilvrB 3 1 2) vS vT 0 0x07170616051504140313021201110010,
      low 128 (.ilvrH 3 1 2) vS vT 0 0x07061716050415140302131201001110,
      low 128 (.pckevB 3 1 2) vS vT 0 0x0e0c0a08060402001e1c1a1816141210,
      low 128 (.pckevH 3 1 2) vS vT 0 0x0d0c0908050401001d1c191815141110,
      low 128 (.pckodB 3 1 2) vS vT 0 0x0f0d0b09070503011f1d1b1917151311,
      low 128 (.pckodH 3 1 2) vS vT 0 0x0f0e0b0a070603021f1e1b1a17161312,
      low 128 (.vshfB 3 1 2) vS vT 0x101505203f1101c080402f201f100f00 0x000515100f01110000001f100f001f10,
      low 128 (.vshfD 3 1 2) vS vT 0x1000000000000000003 0x17161514131211100f0e0d0c0b0a0908,
      low 128 (.shfB 3 1 0x1b) vS 0 0 0x0c0d0e0f08090a0b0405060700010203,
      low 128 (.shfH 3 1 0x1b) vS 0 0 0x09080b0a0d0c0f0e0100030205040706,
      lowG 1 128 (.sldB 3 1 7) vS 0 vT 0x100f0e0d0c0b0a090807060504030201,
      lowG 17 128 (.sldB 3 1 7) vS 0 vT 0x100f0e0d0c0b0a090807060504030201,
      low 128 (.sldiB 3 1 15) vS 0 vT 0x1e1d1c1b1a191817161514131211100f,
      low 128 (.sldiB 3 1 0) vS 0 vT 0x0f0e0d0c0b0a09080706050403020100,
      lowG 5 128 (.splatB 3 1 7) vS 0 0 0x05050505050505050505050505050505,
      lowG 21 128 (.splatB 3 1 7) vS 0 0 0x05050505050505050505050505050505,
      low 128 (.splatiW 3 1 3) vS 0 0 0x0f0e0d0c0f0e0d0c0f0e0d0c0f0e0d0c,
      low 128 (.splatiB 3 1 15) vS 0 0 0x0f0f0f0f0f0f0f0f0f0f0f0f0f0f0f0f,
      low 128 (.ldiB 3 (-1)) 0 0 0 0xffffffffffffffffffffffffffffffff,
      low 128 (.ldiB 3 300) 0 0 0 0x2c2c2c2c2c2c2c2c2c2c2c2c2c2c2c2c]) = true := by decide +kernel

/-! ## Element transfer (95_test_vectors section 2.4) -/

def vX : Nat := 0xffeeddccbbaa99887766554480221100

/-- What `i` leaves on `gpr_out`, from `w1 = X`. -/
def out (g : GprLen) (i : Instr) : Option (Nat × Nat) :=
  match exec i (small vX 0 0 g) with
  | .next t => some (t.gprOut.rd.val, t.gprOut.value.toNat)
  | _ => none

theorem test_copy_s : out .w32 (.copySB 7 1 3) = some (7, 0xffffff80) ∧
    out .w64 (.copySW 7 1 3) = some (7, 0xffffffffffeeddcc) := by decide +kernel
theorem test_copy_u : out .w32 (.copyUH 7 1 1) = some (7, 0x00008022) ∧
    out .w64 (.copyUW 7 1 0) = some (7, 0x0000000080221100) := by decide +kernel
theorem test_copy_s_d : out .w64 (.copySD 7 1 1) = some (7, 0xffeeddccbbaa9988) := by decide +kernel
theorem test_insert : lowG 0x12345678 128 (.insertW 3 7 2) 0 0 0 0x00000000123456780000000000000000 ∧
    lowG 0x8877665544332211 128 (.insertD 3 7 1) 0 0 vS 0x88776655443322110706050403020100 := by decide +kernel
theorem test_insve : low 128 (.insveB 3 1 5) 0x7f 0 0 0x000000000000000000007f0000000000 ∧
    low 128 (.insveD 3 3 1) 0 0 vS 0x07060504030201000706050403020100 := by decide +kernel
theorem test_fill : lowG 0xabcd1234 128 (.fillH 3 7) 0 0 0 0x12341234123412341234123412341234 ∧
    lowG 0x0123456789abcdef 128 (.fillD 3 7) 0 0 0 0x0123456789abcdef0123456789abcdef := by decide +kernel
theorem test_move : low 128 (.moveV 3 1) 0x0123456789abcdef0123456789abcdef 0 0
    0x0123456789abcdef0123456789abcdef := by decide +kernel

/-! ## Aliasing, faults, refusals and the modify bitmap (95_test_vectors sections 2.5, 2.6) -/

theorem test_alias_interleave :
    low 128 (.ilvrB 3 3 2) 0 vT vS 0x07170616051504140313021201110010 := by decide +kernel
theorem test_alias_shuffle : low 128 (.vshfB 3 3 3) 0 0 0x000102030405060708090a0b0c0d0e0f vS := by decide +kernel
theorem test_alias_saturate : low 128 (.addsSB 3 3 3) 0 0 0x64646464646464646464646464646464
    0x7f7f7f7f7f7f7f7f7f7f7f7f7f7f7f7f := by decide +kernel
theorem test_fault_copy : exec (.copySW 7 1 4) (small vX 0 0) = .fault (.reservedInstruction .w 4) := rfl
theorem test_fault_slide : exec (.sldiD 3 1 2) (small vX 0 0) = .fault (.reservedInstruction .d 2) := rfl
theorem test_runtime_index_never_faults : lowG 4 128 (.splatW 3 1 7) vX 0 0 0x80221100802211008022110080221100 := by
  decide +kernel
theorem test_width_refused :
    exec (.copySD 7 1 0) (small vX 0 0 .w32) = .refused .reservedAtGprLen32 := rfl
theorem test_immediate_refused : exec (.slliB 3 1 8) (small vX 0 0) = .refused .immediateOutOfRange := rfl
theorem test_reserved_word_refused :
    step { small 0 0 0 with input := [.word 0x7800001f 0] } = .refused (.reservedWord .reservedMinor) := rfl

/-- Program P5 of 95_test_vectors, its second and fourth steps: the fault leaves `w3` and `MODIFY` as they were and
is handed over with `(w, 4)`; the descriptor issued after it runs. -/
noncomputable def p5 : State :=
  { small vS 0x0f0e0d0c0f0e0d0c0f0e0d0c0f0e0d0c 0x55555555555555555555555555555555 with
    modify := 4, input := [.descriptor (.splatiW 3 1 4) 0, .descriptor (.addvW 31 2 2) 0] }

theorem test_fault_handed_over : (match step p5 with
    | .next t => decide (t.faults = [.reservedInstruction .w 4]) && decide (t.modify = 4) && decide (t.w = p5.w) &&
        decide (t.input = [.descriptor (.addvW 31 2 2) 0])
    | _ => false) = true := by decide +kernel
theorem test_run_goes_on_after_fault : (match core.run 2 p5 with
    | .next (t : State) => decide (t.faults = [.reservedInstruction .w 4]) && decide (t.modify = 0x80000004) &&
        decide (t.rd 31 = 0x1e1c1a181e1c1a181e1c1a181e1c1a18)
    | _ => false) = true := by decide +kernel

/-- `MODIFY` after `i`. -/
def modifyAfter (track : Bool) (m : BitVec 32) (i : Instr) : Option (BitVec 32) :=
  match exec i { small 0 0 0 with modify := m, params := { gprLen := .w64, trackEnable := track, magTie := .first } } with
  | .next t => some t.modify
  | _ => none

theorem test_modify_tracked : modifyAfter true 4 (.addvW 31 2 2) = some 0x80000004 := by decide +kernel
theorem test_modify_untracked : modifyAfter false 4 (.addvW 31 2 2) = some 4 := by decide +kernel
theorem test_modify_copy : modifyAfter true 0 (.copySB 7 1 0) = some 0 := by decide +kernel
theorem test_modify_unchanged_value : modifyAfter true 0 (.ceqB 5 1 1) = some 0x20 := by decide +kernel

/-! ## How a program runs from reset (log 2) -/

theorem test_reset_has_no_input : step State.reset = .refused .noInput := rfl
theorem test_first_word_runs : isNext (step (State.reset.withFetchWord 32 0x7b032047)) = true := rfl

/-! ## Witnesses: for each obligation with hypotheses, a state and operands that meet them, at the boundaries -/

/-- A state with words, descriptors and outside events to come. -/
def busy (es : List Event) : State := { small vS vT 0 with input := es }

theorem witness_DecodeOfEncode :
    (Instr.ldiB 1 (-512)).encodable ∧ (Instr.ldiD 31 511).encodable ∧ (Instr.maxiSB 0 31 (-16)).encodable ∧
    (Instr.maxiSB 0 31 15).encodable ∧ (Instr.addviD 0 0 31).encodable ∧ (Instr.shfW 0 0 255).encodable ∧
    (Instr.slliD 0 0 63).encodable ∧ (Instr.slliB 0 0 7).encodable ∧ (Instr.copySB 31 0 15).encodable ∧
    (Instr.insertD 0 31 1).encodable ∧ (Instr.andV 31 31 31).encodable := by decide
theorem witness_EncodeOfDecode : decode 0x7bffffc7#32 = .error .reservedOperation ∧
    decode 0x7b7fffc7#32 = .ok (.ldiD 31 (-1)) := ⟨rfl, rfl⟩
theorem witness_ReservedWordsRefused :
    (busy [.word 0x7800001f 5]).input = .word 0x7800001f#32 5 :: [] ∧
    field (0x7800001f#32).toNat 31 26 = 30 ∧ ReservedWord (0x7800001f#32).toNat ∧
    field (0x78000020#32).toNat 31 26 = 30 ∧ OutsideWord (0x78000020#32).toNat ∧
    field (0x78000027#32).toNat 31 26 = 30 ∧ OutsideWord (0x78000027#32).toNat ∧
    field (0x77ffffff#32).toNat 31 26 = 29 ∧ field (0x7c000000#32).toNat 31 26 = 31 :=
  ⟨rfl, by decide, .inl (by decide), by decide, .inr (.inl (by decide)), by decide, .inr (.inl (by decide)),
    by decide, by decide⟩
theorem witness_InScopeWordsDecode : field (0x7800000e#32).toNat 31 26 = 30 ∧
    ¬ ReservedWord (0x7800000e#32).toNat ∧ ¬ OutsideWord (0x7800000e#32).toNat := by
  refine ⟨by decide, ?_, ?_⟩
  · have h : (0x7800000e#32).toNat = 0x7800000e := rfl
    rw [h]; simp [ReservedWord, field]
  · have h : (0x7800000e#32).toNat = 0x7800000e := rfl
    rw [h]; simp [OutsideWord, field]
theorem witness_StepRunsDecodedInstruction :
    (busy [.word 0x7b032047 9]).input = .word 0x7b032047#32 9 :: [] ∧
    decode 0x7b032047#32 = .ok (.ldiB 1 100) ∧
    (busy [.descriptor (.ldiB 1 100) 9]).input = .descriptor (.ldiB 1 100) 9 :: [] ∧
    isNext (exec (.ldiB 1 100) (driveGprIn (busy []) 9)) = true ∧
    exec (.splatiB 3 1 16) (driveGprIn (busy []) 9) = .fault (.reservedInstruction .b 16) ∧
    exec (.slliB 3 1 8) (driveGprIn (busy []) 9) = .refused .immediateOutOfRange :=
  ⟨rfl, rfl, rfl, rfl, rfl, rfl⟩
theorem witness_OutsideEventsAndEndOfRun :
    (busy [.clearModify 6]).input = .clearModify 6 :: [] ∧ (busy [.contextOr 6]).input = .contextOr 6 :: [] ∧
    (busy []).input = [] := ⟨rfl, rfl, rfl⟩

/-- The immediate clauses of the row statements at their boundary values: the descriptors complete there. -/
theorem witness_u5_clauses : (31 : Nat) ≤ 31 ∧
    [Instr.addvi .b 3 1 31, .subvi .d 3 1 31, .maxiU .h 3 1 31, .miniU .w 3 1 31, .cltiU .b 3 1 31,
      .cleiU .d 3 1 0].all (fun i => isNext (exec i (small vS vT 0))) = true := by decide +kernel
theorem witness_s5_clauses : (-16 : Int) ≤ -16 ∧ (-16 : Int) ≤ 15 ∧
    [Instr.maxiS .b 3 1 (-16), .miniS .d 3 1 15, .ceqi .h 3 1 (-16), .cltiS .w 3 1 15,
      .cleiS .b 3 1 (-16)].all (fun i => isNext (exec i (small vS vT 0))) = true := by decide +kernel
theorem witness_m_clauses : 7 < laneBits .b ∧ 63 < laneBits .d ∧
    [Instr.slli .b 3 1 7, .srai .d 3 1 63, .srli .h 3 1 15, .srari .w 3 1 31, .srlri .d 3 1 63, .bclri .b 3 1 7,
      .bseti .d 3 1 63, .bnegi .w 3 1 31, .binsli .b 3 1 7, .binsri .d 3 1 63, .satS .h 3 1 15,
      .satU .d 3 1 63].all (fun i => isNext (exec i (small vS vT 0))) = true := by decide +kernel
theorem witness_i8_clauses : (255 : Nat) ≤ 255 ∧
    [Instr.andiB 3 1 255, .oriB 3 1 255, .noriB 3 1 255, .xoriB 3 1 255, .bmnziB 3 1 255, .bmziB 3 1 255,
      .bseliB 3 1 255, .shfW 3 1 255].all (fun i => isNext (exec i (small vS vT 0))) = true := by decide +kernel
theorem witness_s10_clauses : (-512 : Int) ≤ -512 ∧ (511 : Int) ≤ 511 ∧
    [Instr.ldiB 3 (-512), .ldiD 3 511].all (fun i => isNext (exec i (small vS vT 0))) = true := by decide +kernel
theorem witness_SignedSaturate : 15 < laneBits .h ∧ 15 = laneBits .h - 1 ∧
    low 128 (Instr.satS .h 3 1 15) vS 0 0 vS := by decide +kernel
theorem witness_lane_clauses :
    1 < laneCount .d ∧ 15 < laneCount .b ∧ (small 0 0 0).params.gprLen = .w64 ∧
    [Instr.sldi .b 3 1 15, .splati .d 3 1 1, .insert .d 3 7 1, .insve .b 3 1 15, .copyS .d 7 1 1, .copyU .w 7 1 3,
      .fill .d 3 7].all (fun i => isNext (exec i (small vS vT 0))) = true := by decide +kernel
theorem witness_Splats_fault : laneCount .h ≤ 8 ∧
    exec (Instr.splati .h 3 1 8) (small vS vT 0) = .fault (.reservedInstruction .h 8) := ⟨by decide, rfl⟩
theorem witness_lane_clauses_at_32 :
    [Instr.insert .w 3 7 3, .copyS .w 7 1 3, .copyU .h 7 1 7, .fill .w 3 7].all
      (fun i => isNext (exec i (small vS vT 0 .w32))) = true := by decide +kernel
theorem witness_groups : ∀ df : Fmt, 16 / laneCount df - 1 < 16 / laneCount df ∧ laneCount df - 1 < laneCount df := by
  intro df; cases df <;> decide
theorem witness_DivisionIdentity : ∃ t u, (15 : Nat) < laneCount .b ∧
    exec (Instr.divS .b 3 1 2) (small 0xf9000000000000000000000000000000 0x02000000000000000000000000000000 0) = .next t ∧
    exec (Instr.modS .b 4 1 2) (small 0xf9000000000000000000000000000000 0x02000000000000000000000000000000 0) = .next u ∧
    loadS (small 0xf9000000000000000000000000000000 0x02000000000000000000000000000000 0) 2 .b 15 ≠ 0 ∧
    loadS (small 0xf9000000000000000000000000000000 0x02000000000000000000000000000000 0) 2 .b 15 ≠ -1 :=
  ⟨_, _, by decide, rfl, rfl, by decide +kernel, by decide +kernel⟩
theorem witness_PackInvertsInterleave : ∃ t u v x, (4 : Reg) ≠ 1 ∧ (4 : Reg) ≠ 2 ∧ (5 : Reg) ≠ 4 ∧
    exec (Instr.ilvl .b 4 1 2) (small vS vT 0) = .next t ∧ exec (Instr.ilvr .b 5 1 2) t = .next u ∧
    exec (Instr.pckev .b 6 4 5) u = .next v ∧ exec (Instr.pckod .b 7 4 5) u = .next x :=
  ⟨_, _, _, _, by decide, by decide, by decide, rfl, rfl, rfl, rfl⟩
theorem witness_LaneIndexOutOfRangeFaults :
    (Instr.insertD 3 7 2).laneIndex = some (.d, 2) ∧ laneCount .d ≤ 2 ∧
    ((Instr.insertD 3 7 2).needsGprLen64 = true → (small 0 0 0).params.gprLen = .w64) ∧
    (Instr.splatiB 3 1 16).laneIndex = some (.b, 16) ∧ laneCount .b ≤ 16 := by decide
theorem witness_FaultOnlyFromLaneIndex :
    exec (.insveW 3 1 4) (small 0 0 0) = .fault (.reservedInstruction .w 4) := rfl
theorem witness_InRangeInputNeverFaults :
    ∀ e ∈ (busy [.word 0x7b032047 0, .descriptor (.splatiB 3 1 15) 0, .clearModify 1, .contextOr 2]).input,
      e.indexOk = true := by decide
theorem witness_AdmittedInstructionsComplete :
    (Instr.copySD 7 1 1).wellFormed = true ∧ (Instr.copySD 7 1 1).laneIndexOk = true ∧
    ((Instr.copySD 7 1 1).needsGprLen64 = true → (small 0 0 0).params.gprLen = .w64) ∧
    (Instr.ldiD 3 (-512)).wellFormed = true := by decide
theorem witness_IllFormedImmediateRefused :
    (Instr.addviB 0 0 32).wellFormed = false ∧ (Instr.slliB 0 0 8).wellFormed = false ∧
    (Instr.ldiB 0 512).wellFormed = false ∧ (Instr.andiB 0 0 256).wellFormed = false ∧
    (Instr.ceqiB 0 0 (-17)).wellFormed = false := by decide
theorem witness_ReservedAtGprLen32 :
    (Instr.insertD 3 7 5).needsGprLen64 = true ∧ (small 0 0 0 .w32).params.gprLen = .w32 ∧
    exec (.insertD 3 7 5) (small 0 0 0 .w32) = .refused .reservedAtGprLen32 := ⟨rfl, rfl, rfl⟩
theorem witness_WritesOnlyNamedDestination :
    isNext (exec (.addvB 3 1 2) (small vS vT 0)) = true ∧ (Instr.addvB 3 1 2).vecDest ≠ some 31 ∧
    (Instr.addvB 3 1 2).gprDest = none ∧ isNext (exec (.copySB 7 1 0) (small vS vT 0)) = true := by decide +kernel
/-- Two states that differ in `w3` and in `w4`, which `addv.b w3, w1, w2` does not name as a source. -/
theorem witness_ReadsOnlyNamedSources :
    (small vS vT 0).params = ((small vS vT 1).wr 4 9).params ∧
    ((Instr.addvB 3 1 2).readsGprIn = true → (small vS vT 0).gprIn = ((small vS vT 1).wr 4 9).gprIn) ∧
    (∀ r ∈ (Instr.addvB 3 1 2).sources, (small vS vT 0).rd r = ((small vS vT 1).wr 4 9).rd r) ∧
    isNext (exec (.addvB 3 1 2) (small vS vT 0)) = true ∧
    isNext (exec (.addvB 3 1 2) ((small vS vT 1).wr 4 9)) = true ∧
    (small vS vT 0).rd 3 ≠ ((small vS vT 1).wr 4 9).rd 3 := by decide +kernel
theorem witness_ModifyUpdate : isNext (exec (.addvB 31 1 2) (small vS vT 0)) = true ∧ (31 : Nat) < 32 ∧
    (Instr.addvB 31 1 2).vecDest.map Fin.val = some 31 := by decide +kernel
theorem witness_RepeatGivesSameState : isNext (exec (.andV 3 1 2) (small vS vT 0)) = true ∧
    (∀ wd, (Instr.andV 3 1 2).vecDest = some wd → wd ∉ (Instr.andV 3 1 2).sources) := by decide +kernel
theorem witness_ModifiedRegistersStayMarked :
    (∀ m rest, (busy [.word 0x7b032047 0]).input ≠ .clearModify m :: rest) ∧
    TrackedSince (small vS vT 0).w (busy [.word 0x7b032047 0]) ∧
    (busy [.word 0x7b032047 0]).params.trackEnable = true ∧
    isNext (step (busy [.word 0x7b032047 0])) = true :=
  ⟨fun _ _ h => (nomatch h), fun _ _ hne => absurd rfl hne, rfl, rfl⟩
theorem witness_PortsStayWithinGprLen :
    PortsWithinGprLen { small vS vT 0 .w32 with input := [.word 0x7b032047 0xffffffff00000001] } ∧
    isNext (step { small vS vT 0 .w32 with input := [.word 0x7b032047 0xffffffff00000001] }) = true :=
  ⟨⟨by decide, by decide⟩, rfl⟩
theorem witness_ParametersNeverChange : isNext (step (busy [.clearModify 3])) = true := rfl
theorem witness_ComparesLeaveOnlyMasks : Instr.cleiU .b 3 1 31 ∈ [Instr.ceq .b 3 1 2, Instr.cleiU .b 3 1 31] ∧
    isNext (exec (Instr.cleiU .b 3 1 31) (small vS vT 0)) = true ∧ 15 < laneCount .b := by decide +kernel
theorem witness_LaneWritesAreExact : (7 : Nat) < laneCount .h ∧ (13 : Nat) < 16 ∧ 13 < 7 * (laneBits .h / 8) ∧
    (0 : Nat) < laneCount .h ∧ (0 + 1) * (laneBits .h / 8) ≤ 2 ∧ (31 : Reg) ≠ 0 ∧ (7 : Nat) < 8 := by decide
theorem witness_StagingLeftoverNeverCommitted : (255 : Nat) ≤ 255 ∧ (15 : Nat) < laneCount .b ∧
    [Instr.shf .b 3 1 255, .shf .w 3 1 255, .sldi .b 3 1 15, .sldi .d 3 1 1, .ilvl .h 3 1 2].all
      (fun i => isNext (exec i (small vS vT 0))) = true := by decide +kernel
/-- `0xff + 0x02` in byte lane 0, by `addv.b`, leaves 257 mod 2^8 = 1 (computed by hand from R189). -/
theorem witness_ModularLanesAreResidues : (31 : Nat) ≤ 31 ∧ 15 < laneCount .b ∧
    low 8 (.addvB 3 1 2) 0xff 0x02 0 0x01 ∧
    [Instr.addvi .b 3 1 31, .subvi .d 3 1 0, .addA .h 3 1 2].all
      (fun i => isNext (exec i (small vS vT 0))) = true := by decide +kernel

end Sys2Proof.Tests
end

section
/-! Modular add and subtract (41 R189): a lane stored and read back unsigned is the exact result modulo
`2^width`, and the two readings of a lane are congruent modulo `2^width`, so the result is the same residue
whichever way the operands are read. -/

namespace Sys2Proof.Machine

/-! ## Readings and truncation modulo `2^width` -/

theorem zext_trunc_eq_emod (df : Fmt) (v : Int) : zext (trunc df v) = v % 2 ^ laneBits df := by
  simp only [zext, trunc, BitVec.toNat_ofInt]
  rw [Int.toNat_of_nonneg (Int.emod_nonneg _ (by positivity))]
  push_cast
  rfl

theorem sext_modEq_zext {n : Nat} (x : BitVec n) : sext x ≡ zext x [ZMOD 2 ^ n] := by
  have h : x.toInt % ((2 ^ n : Nat) : Int) = x.toNat % ((2 ^ n : Nat) : Int) := by
    rw [BitVec.toInt_eq_toNat_bmod, Int.bmod_emod]
  exact_mod_cast h

theorem loadS_modEq_loadU (s : State) (r : Reg) (df : Fmt) (k : Nat) :
    loadS s r df k ≡ loadU s r df k [ZMOD 2 ^ laneBits df] :=
  sext_modEq_zext (loadLane s r df k)

/-! ## What a committed lane reads as -/

theorem loadU_commit_of_lane_eq_trunc {s : State} {wd : Reg} {V : Vec} {df : Fmt} {k : Nat} {v : Int}
    (hk : k < laneCount df) (h : lane V df k = trunc df v) :
    loadU (commit s wd V) wd df k = v % 2 ^ laneBits df := by
  rw [loadU, loadLane_of_lt _ _ hk, commit_rd_same, h, zext_trunc_eq_emod]

/-- `i` completes at `s` and leaves in each lane of `wd`, read unsigned, the residue of `v` modulo `2^width`
(41 R189). -/
def LeavesResidues (i : Instr) (s : State) (wd : Reg) (df : Fmt) (v : Nat → Int) : Prop :=
  ∃ t, exec i s = .next t ∧ ∀ k, k < laneCount df → loadU t wd df k = v k % 2 ^ laneBits df

/-- A row that stores `f k` in lane `k` leaves the residue of every `v k` congruent to `f k`. -/
theorem leavesResidues_of_rowLanes {w : Word32} {i : Instr} {s : State} {wd : Reg} {df : Fmt}
    {f v : Nat → Int} (h : RowLanes w i s wd df f) (hv : ∀ k, f k ≡ v k [ZMOD 2 ^ laneBits df]) :
    LeavesResidues i s wd df v := by
  obtain ⟨-, V, hexec, hlane⟩ := h
  exact ⟨_, hexec, fun k hk => (loadU_commit_of_lane_eq_trunc hk (hlane k hk)).trans (hv k)⟩

/-! ## The rows of the five modular operations (R171 to R174, R183) -/

section Rows

variable (s : State) (df : Fmt) (wd ws wt : Reg)

theorem rowLanes_addv : RowLanes (word3R 14 0 df wd ws wt) (Instr.addv df wd ws wt) s wd df
    (fun k => loadS s ws df k + loadS s wt df k) :=
  rowLanes_of_lanewise3 (decode_addv df wd ws wt) (exec_addv df wd ws wt s) fun _ _ => rfl

theorem rowLanes_subv : RowLanes (word3R 14 1 df wd ws wt) (Instr.subv df wd ws wt) s wd df
    (fun k => loadS s ws df k - loadS s wt df k) :=
  rowLanes_of_lanewise3 (decode_subv df wd ws wt) (exec_subv df wd ws wt s) fun _ _ => rfl

theorem rowLanes_addA : RowLanes (word3R 16 0 df wd ws wt) (Instr.addA df wd ws wt) s wd df
    (fun k => mag (loadS s ws df k) + mag (loadS s wt df k)) :=
  rowLanes_of_lanewise3 (decode_addA df wd ws wt) (exec_addA df wd ws wt s) fun _ _ => rfl

theorem rowLanes_addvi {u5 : Nat} (hu : u5 ≤ 31) :
    RowLanes (wordI5 6 0 df wd ws u5) (Instr.addvi df wd ws u5) s wd df (fun k => loadS s ws df k + u5) :=
  rowLanes_of_lanewise2 (decode_addvi df wd ws u5 hu)
    ((exec_addvi df wd ws u5 s).trans (withImmediate_of_true (decide_eq_true hu) _)) fun _ _ => rfl

theorem rowLanes_subvi {u5 : Nat} (hu : u5 ≤ 31) :
    RowLanes (wordI5 6 1 df wd ws u5) (Instr.subvi df wd ws u5) s wd df (fun k => loadS s ws df k - u5) :=
  rowLanes_of_lanewise2 (decode_subvi df wd ws u5 hu)
    ((exec_subvi df wd ws u5 s).trans (withImmediate_of_true (decide_eq_true hu) _)) fun _ _ => rfl

end Rows

/-- Settles O13: each row stores its exact signed result truncated, and replacing a signed reading of an operand
by the unsigned one changes that result by a multiple of `2^width` only. -/
theorem modularLanesAreResidues : Obligations.ModularLanesAreResidues := by
  unfold Obligations.ModularLanesAreResidues
  intro s df wd ws wt u5
  have hs := loadS_modEq_loadU s ws df
  have ht := loadS_modEq_loadU s wt df
  have haddv := rowLanes_addv s df wd ws wt
  have hsubv := rowLanes_subv s df wd ws wt
  refine ⟨?addvSigned, ?addvUnsigned, ?subvSigned, ?subvUnsigned, ?addA, fun hu => ?immediate⟩
  case addvSigned => exact leavesResidues_of_rowLanes haddv fun _ => rfl
  case addvUnsigned => exact leavesResidues_of_rowLanes haddv fun k => (hs k).add (ht k)
  case subvSigned => exact leavesResidues_of_rowLanes hsubv fun _ => rfl
  case subvUnsigned => exact leavesResidues_of_rowLanes hsubv fun k => (hs k).sub (ht k)
  case addA => exact leavesResidues_of_rowLanes (rowLanes_addA s df wd ws wt) fun _ => rfl
  case immediate =>
    have haddvi := rowLanes_addvi s df wd ws hu
    have hsubvi := rowLanes_subvi s df wd ws hu
    exact ⟨leavesResidues_of_rowLanes haddvi fun _ => rfl,
      leavesResidues_of_rowLanes haddvi fun k => (hs k).add_right u5,
      leavesResidues_of_rowLanes hsubvi fun _ => rfl,
      leavesResidues_of_rowLanes hsubvi fun k => (hs k).sub_right u5⟩

end Sys2Proof.Machine
end

section
/-! Compares leave only masks (42 R211, R222): every compare kernel is `mask` of a truth value, a mask truncated to
a lane is all zeros or all ones, and the drivers store nothing else into `wd`. -/

namespace Sys2Proof.Machine

theorem trunc_mask (df : Fmt) (p : Bool) :
    trunc df (mask p) = if p then BitVec.allOnes (laneBits df) else 0 := by
  apply BitVec.eq_of_getLsbD_eq
  intro j hj
  rw [getLsbD_trunc_mask df p hj]
  cases p <;> simp [hj]

theorem trunc_mask_eq_zero_or_allOnes (df : Fmt) (p : Bool) :
    trunc df (mask p) = 0 ∨ trunc df (mask p) = BitVec.allOnes (laneBits df) := by
  rw [trunc_mask]
  cases p
  · exact .inl rfl
  · exact .inr rfl

/-- An immediate form gives a next state only for an immediate in range, and then the one the operation gives. -/
theorem withImmediate_eq_next {b : Bool} {r : Result} {t : State} :
    withImmediate b r = .next t ↔ b = true ∧ r = .next t := by
  cases b <;> simp [withImmediate]

/-- Whenever the outcome `r` is a next state, each lane of `wd` in it is all zeros or all ones (42 R222). -/
def LeavesMasks (wd : Reg) (df : Fmt) (r : Result) : Prop :=
  ∀ t, r = .next t → ∀ k, k < laneCount df →
    lane (t.rd wd) df k = 0 ∨ lane (t.rd wd) df k = BitVec.allOnes (laneBits df)

namespace LeavesMasks

variable {wd ws wt : Reg} {df : Fmt} {s : State} {r : Result}

theorem of_commit {V : Vec} (hr : r = .next (commit s wd V))
    (hV : ∀ k, k < laneCount df → ∃ p, lane V df k = trunc df (mask p)) : LeavesMasks wd df r := by
  rintro t ht k hk
  obtain rfl : commit s wd V = t := Host.Outcome.next.inj (hr.symm.trans ht)
  obtain ⟨p, hp⟩ := hV k hk
  rw [commit_rd_same, hp]
  exact trunc_mask_eq_zero_or_allOnes df p

theorem of_lanewise3 {p : Lane df → Lane df → Lane df → Bool}
    (hr : r = lanewise3 df wd ws wt (fun d a b => mask (p d a b)) s) : LeavesMasks wd df r := by
  obtain ⟨V, hV, hlane⟩ := lanewise3_spec df wd ws wt (fun d a b => mask (p d a b)) s
  exact of_commit (hr.trans hV) fun k hk => ⟨_, hlane k hk⟩

theorem of_lanewise2 {p : Lane df → Lane df → Bool}
    (hr : r = lanewise2 df wd ws (fun d a => mask (p d a)) s) : LeavesMasks wd df r := by
  obtain ⟨V, hV, hlane⟩ := lanewise2_spec df wd ws (fun d a => mask (p d a)) s
  exact of_commit (hr.trans hV) fun k hk => ⟨_, hlane k hk⟩

theorem of_withImmediate {b : Bool} {p : Lane df → Lane df → Bool}
    (hr : r = withImmediate b (lanewise2 df wd ws (fun d a => mask (p d a)) s)) : LeavesMasks wd df r := by
  intro t ht
  obtain ⟨-, hnext⟩ := withImmediate_eq_next.mp (hr.symm.trans ht)
  exact of_lanewise2 rfl t hnext

end LeavesMasks

/-- Settles O58: the five register forms run the lane-wise driver on a mask kernel, the five immediate forms do so
after their range check, which gives no next state when it fails. -/
theorem comparesLeaveOnlyMasks : Obligations.ComparesLeaveOnlyMasks := by
  unfold Obligations.ComparesLeaveOnlyMasks
  intro s t df wd ws wt s5 u5 i hi
  suffices h : LeavesMasks wd df (exec i s) from h t
  simp only [List.mem_cons, List.not_mem_nil, or_false] at hi
  obtain rfl | rfl | rfl | rfl | rfl | rfl | rfl | rfl | rfl | rfl := hi
  · exact .of_lanewise3 (exec_ceq df wd ws wt s)
  · exact .of_lanewise3 (exec_cltS df wd ws wt s)
  · exact .of_lanewise3 (exec_cltU df wd ws wt s)
  · exact .of_lanewise3 (exec_cleS df wd ws wt s)
  · exact .of_lanewise3 (exec_cleU df wd ws wt s)
  · exact .of_withImmediate (exec_ceqi df wd ws s5 s)
  · exact .of_withImmediate (exec_cltiS df wd ws s5 s)
  · exact .of_withImmediate (exec_cltiU df wd ws u5 s)
  · exact .of_withImmediate (exec_cleiS df wd ws s5 s)
  · exact .of_withImmediate (exec_cleiU df wd ws u5 s)

end Sys2Proof.Machine
end

section
/-! The block's one fault (60 R370, R372): of the five ways `exec` can end, one is a fault, and what decides it is the
immediate lane index. -/

namespace Sys2Proof.Machine

/-- Settles O44: of the outcomes of `exec`, only that of an out-of-range lane index is a fault. -/
theorem faultOnlyFromLaneIndex : Obligations.FaultOnlyFromLaneIndex := by
  unfold Obligations.FaultOnlyFromLaneIndex
  intro s i f hf
  have ho : ExecOutcome i s (.fault f) := hf ▸ exec_outcome i s
  cases ho with
  | index hi hn _ => exact ⟨_, _, hi, hn, rfl⟩

end Sys2Proof.Machine
end

section
/-! The whole machine, from the two ways an operation completes (`exec_next_cases`) and the four things a step can do
(`step_next_cases`): what an operation changes, what every step keeps, and what reset leaves. -/

namespace Sys2Proof.Machine

/-! ## What an operation that completes does -/

/-- An operation that completes is admitted, and either commits a value to its vector destination or drives its
scalar result. -/
theorem exec_next_cases {i : Instr} {s t : State} (h : exec i s = .next t) :
    Admitted i s ∧
      ((∃ wd V, i.vecDest = some wd ∧ i.gprDest = none ∧ t = commit s wd V) ∨
        ∃ rd v, i.vecDest = none ∧ i.gprDest = some rd ∧ t = { s with gprOut := scalarOut s rd v }) := by
  have ho : ExecOutcome i s (.next t) := h ▸ exec_outcome i s
  cases ho with
  | vector V ha hd hr => exact ⟨ha, .inl ⟨_, V, hd, hr, rfl⟩⟩
  | scalar v ha hd hr => exact ⟨ha, .inr ⟨_, v, hd, hr, rfl⟩⟩

theorem exec_next_params {i : Instr} {s t : State} (h : exec i s = .next t) : t.params = s.params := by
  obtain ⟨-, ⟨wd, V, -, -, rfl⟩ | ⟨rd, v, -, -, rfl⟩⟩ := exec_next_cases h
  · exact commit_params s wd V
  · rfl

/-- Settles O49: `commit` writes one wide register and one bit of `MODIFY`, and a scalar result goes to `gpr_out`. -/
theorem writesOnlyNamedDestination : Obligations.WritesOnlyNamedDestination := by
  unfold Obligations.WritesOnlyNamedDestination
  intro s t i h
  obtain ⟨-, ⟨wd, V, hd, -, rfl⟩ | ⟨rd, v, -, hr, rfl⟩⟩ := exec_next_cases h
  · have hrd : ∀ r, i.vecDest ≠ some r → (commit s wd V).rd r = s.rd r := fun r hne =>
      commit_rd_ne s V fun e => hne (e ▸ hd)
    exact ⟨hrd, by simp⟩
  · exact ⟨fun _ _ => rfl, rfl, rfl, rfl, rfl, fun hnone => by simp [hr] at hnone⟩

theorem getLsbD_commit_modify (s : State) (wd : Reg) (V : Vec) {j : Nat} (hj : j < 32) :
    (commit s wd V).modify.getLsbD j
      = (s.modify.getLsbD j || (s.params.trackEnable && decide (j = wd.val))) := by
  rw [commit_modify]
  cases s.params.trackEnable
  · simp
  · simp [-BitVec.getLsbD_eq_getElem, getLsbD_oneBit, hj]

/-- Settles O51: `commit` ORs the bit of its register into `MODIFY` when tracking is on, and a scalar result leaves
`MODIFY` alone. -/
theorem modifyUpdate : Obligations.ModifyUpdate := by
  unfold Obligations.ModifyUpdate
  intro s t i h j hj
  obtain ⟨-, ⟨wd, V, hd, -, rfl⟩ | ⟨rd, v, hd, -, rfl⟩⟩ := exec_next_cases h
  · rw [getLsbD_commit_modify s wd V hj, hd]
    simp [eq_comm]
  · simp [hd]

/-! ## What every step keeps -/

/-- A step changes the parameters in no case: an operation does not, and the other events do not touch them. -/
theorem step_next_params {s t : State} (h : step s = .next t) : t.params = s.params := by
  obtain ⟨e, rest, -, ⟨i, g, -, hx⟩ | ⟨i, g, f, -, -, rfl⟩ | ⟨m, -, rfl⟩ | ⟨m, -, rfl⟩⟩ := step_next_cases h
  · exact (exec_next_params hx).trans rfl
  all_goals rfl

/-- Settles O57. -/
theorem parametersNeverChange : Obligations.ParametersNeverChange := by
  unfold Obligations.ParametersNeverChange
  exact fun s t => step_next_params

/-- The invariant of the modify bitmap moves from `s` to `t` when each register is marked in `t`, or is as it was and
keeps its mark. -/
theorem trackedSince_of_marked_or_kept {base : Vector Vec 32} {s t : State} (h : TrackedSince base s)
    (hp : t.params = s.params)
    (hr : s.params.trackEnable = true → ∀ r : Reg, t.modify.getLsbD r.val = true ∨
      t.rd r = s.rd r ∧ (s.modify.getLsbD r.val = true → t.modify.getLsbD r.val = true)) :
    TrackedSince base t := by
  intro ht r hne
  rw [hp] at ht
  obtain hmarked | ⟨hrd, hkept⟩ := hr ht r
  · exact hmarked
  · exact hkept (h ht r (hrd ▸ hne))

theorem trackedSince_commit {base : Vector Vec 32} {s : State} (h : TrackedSince base s) (wd : Reg) (V : Vec) :
    TrackedSince base (commit s wd V) := by
  refine trackedSince_of_marked_or_kept h (commit_params s wd V) fun ht r => ?_
  rw [getLsbD_commit_modify s wd V r.isLt, ht]
  by_cases hr : r = wd
  · exact .inl (by simp [hr])
  · exact .inr ⟨commit_rd_ne s V hr, fun hm => by simp [hm]⟩

theorem trackedSince_contextOr {base : Vector Vec 32} {s : State} (h : TrackedSince base s) (m : BitVec 32) :
    TrackedSince base (contextOr s m) :=
  trackedSince_of_marked_or_kept h rfl fun _ _ => .inr ⟨rfl, fun hm => by simp [hm]⟩

/-- Settles O53: an operation marks the one register it writes, a handed-over fault and a scalar result write none,
and another context's OR only sets bits. -/
theorem modifiedRegistersStayMarked : Obligations.ModifiedRegistersStayMarked := by
  unfold Obligations.ModifiedRegistersStayMarked
  intro base s t hclear htracked hstep
  obtain ⟨e, rest, hin, ⟨i, g, -, hx⟩ | ⟨i, g, f, -, -, rfl⟩ | ⟨m, rfl, -⟩ | ⟨m, -, rfl⟩⟩ := step_next_cases hstep
  · have hissued : TrackedSince base (issuedAt s g rest) := htracked
    obtain ⟨-, ⟨wd, V, -, -, rfl⟩ | ⟨rd, v, -, -, rfl⟩⟩ := exec_next_cases hx
    · exact trackedSince_commit hissued wd V
    · exact hissued
  · exact htracked
  · exact absurd hin (hclear m rest)
  · exact trackedSince_contextOr (s := { s with input := rest }) htracked m

/-! ### The scalar ports -/

theorem gprLen_bits_le (g : GprLen) : g.bits ≤ 64 := by cases g <;> decide

/-- A 64-bit port that holds a residue modulo `2^GPRLEN` holds a GPRLEN-bit value. -/
theorem toNat_ofNat_mod_gprLen_lt (g : GprLen) (n : Nat) :
    (BitVec.ofNat 64 (n % 2 ^ g.bits)).toNat < 2 ^ g.bits := by
  rw [BitVec.toNat_ofNat]
  exact lt_of_le_of_lt (Nat.mod_le _ _) (Nat.mod_lt _ (Nat.two_pow_pos _))

theorem driveGprIn_gprIn_lt (s : State) (g : Scalar) :
    (driveGprIn s g).gprIn.toNat < 2 ^ s.params.gprLen.bits :=
  toNat_ofNat_mod_gprLen_lt s.params.gprLen g.toNat

theorem scalarOut_value_lt (s : State) (rd : Gpr) (v : Int) :
    (scalarOut s rd v).value.toNat < 2 ^ s.params.gprLen.bits := by
  have hpos : (0 : Int) < 2 ^ s.params.gprLen.bits := by positivity
  obtain ⟨n, hn⟩ := Int.eq_ofNat_of_zero_le (Int.emod_nonneg v (ne_of_gt hpos))
  have hlt : n < 2 ^ s.params.gprLen.bits := by
    have := Int.emod_lt_of_pos v hpos
    rw [hn] at this
    exact_mod_cast this
  have := toNat_ofNat_mod_gprLen_lt s.params.gprLen n
  rwa [Nat.mod_eq_of_lt hlt, ← BitVec.ofInt_natCast, ← hn] at this

theorem portsWithinGprLen_issuedAt {s : State} (h : PortsWithinGprLen s) (g : Scalar) (rest : List Event) :
    PortsWithinGprLen (issuedAt s g rest) :=
  ⟨driveGprIn_gprIn_lt { s with input := rest } g, h.2⟩

/-- Settles O55: `gpr_in` is truncated as it is driven, `gpr_out` as it is driven by a copy, and no other step moves
either. -/
theorem portsStayWithinGprLen : Obligations.PortsStayWithinGprLen := by
  unfold Obligations.PortsStayWithinGprLen
  intro s t hports hstep
  obtain ⟨e, rest, -, ⟨i, g, -, hx⟩ | ⟨i, g, f, -, -, rfl⟩ | ⟨m, -, rfl⟩ | ⟨m, -, rfl⟩⟩ := step_next_cases hstep
  · have hissued := portsWithinGprLen_issuedAt hports g rest
    obtain ⟨-, ⟨wd, V, -, -, rfl⟩ | ⟨rd, v, -, -, rfl⟩⟩ := exec_next_cases hx
    · simpa only [PortsWithinGprLen, commit_gprIn, commit_gprOut, commit_params] using hissued
    · exact ⟨hissued.1, scalarOut_value_lt (issuedAt s g rest) rd v⟩
  · exact portsWithinGprLen_issuedAt hports g rest
  · exact hports
  · exact hports

/-! ## Reset -/

theorem reset_modify : State.reset.modify = 0 := rfl

/-- Settles O54: with `MODIFY` zero, no register may differ from `base`, and registers that all agree are the whole
register file. -/
theorem modifiedRegistersMarkedAtReset : Obligations.ModifiedRegistersMarkedAtReset := by
  unfold Obligations.ModifiedRegistersMarkedAtReset
  intro base
  constructor
  · intro h
    by_cases htrack : State.reset.params.trackEnable = true
    · refine .inr (Vector.ext fun k hk => ?_)
      by_contra hne
      have hmarked := h htrack ⟨k, hk⟩ fun e => hne e.symm
      simp [reset_modify] at hmarked
    · exact .inl (Bool.eq_false_iff.mpr htrack)
  · rintro (hoff | rfl) htrack r hne
    · rw [hoff] at htrack; cases htrack
    · exact absurd rfl hne

/-- Settles O56. -/
theorem resetPortsAndModify : Obligations.ResetPortsAndModify := by
  unfold Obligations.ResetPortsAndModify
  exact ⟨⟨Nat.two_pow_pos _, Nat.two_pow_pos _⟩, reset_modify, rfl, rfl⟩

end Sys2Proof.Machine
end

section
/-! The decoder read backwards (30_encoding R85 to R107): if a word decodes, its fields spell the instruction back, so
the encoder gives that word again, and every immediate read from a field is in range. One lemma per word format. -/

namespace Sys2Proof

open Machine

/-! ## A word from its fields -/

theorem fmtCode_fmtOf {u : Nat} (h : u < 4) : fmtCode (fmtOf u) = u := by
  interval_cases u <;> rfl

theorem unsigned_signed5 {u : Nat} (h : u < 32) : unsigned 5 (signed 5 u) = u := by
  rw [unsigned, signed]; split <;> omega

theorem unsigned_signed10 {u : Nat} (h : u < 1024) : unsigned 10 (signed 10 u) = u := by
  rw [unsigned, signed]; split <;> omega

theorem s5Ok_signed5 {u : Nat} (h : u < 32) : s5Ok (signed 5 u) = true := by
  rw [s5Ok, signed, Bool.and_eq_true, decide_eq_true_iff, decide_eq_true_iff]; split <;> omega

theorem s10Ok_signed10 {u : Nat} (h : u < 1024) : s10Ok (signed 10 u) = true := by
  rw [s10Ok, signed, Bool.and_eq_true, decide_eq_true_iff, decide_eq_true_iff]; split <;> omega

theorem field_lt (x hi lo : Nat) : field x hi lo < 2 ^ (hi + 1 - lo) := Nat.mod_lt _ (Nat.two_pow_pos _)

/-- A df/m field that is not reserved is the code of the format and position it names (R91). -/
theorem dfmCode_of_dfmOf {u m : Nat} {df : Fmt} (h : dfmOf u = some (df, m)) :
    dfmCode df m = u ∧ m < laneBits df := by
  rw [dfmOf] at h
  split_ifs at h <;> cases h <;> constructor <;> simp only [dfmCode, laneBits] <;> omega

/-- A df/n field that is not reserved is the code of the format and index it names (R92). -/
theorem dfnCode_of_dfnOf {u n : Nat} {df : Fmt} (h : dfnOf u = some (df, n)) :
    dfnCode df n = u ∧ n < laneCount df := by
  rw [dfnOf] at h
  split_ifs at h <;> cases h <;> constructor <;> simp only [dfnCode, laneCount_eq] <;> omega

section Words

variable {w : Word32}

/-- An MSA word is its minor opcode, its two register fields and bits 25:16 (R85, R98). -/
theorem wordMsa_of_fields (hmajor : field w.toNat 31 26 = 30) {minor top : Nat} (hminor : field w.toNat 5 0 = minor)
    (htop : field w.toNat 25 16 = top) :
    wordMsa minor (regField w.toNat 6) (regField w.toNat 11) top = w := by
  have := w.isLt
  apply BitVec.eq_of_toNat_eq
  simp only [field] at hmajor hminor htop
  rw [wordMsa, BitVec.toNat_ofNat]
  simp only [regField]
  omega

end Words

/-! ## The operations of each format, read back -/

/-- The instruction `i` is spelled by the word `w`, with every immediate and lane index in range. -/
def SpelledBy (w : Word32) (i : Instr) : Prop := encode i = w ∧ i.encodable = true

section Formats

variable {minor op : Nat} {df : Fmt} {wd ws wt : Fin 32} {i : Instr}

theorem spelledBy_of_decode3R (h : decode3R minor op df wd ws wt = .ok i) :
    SpelledBy (word3R minor op df wd ws wt) i := by
  unfold decode3R at h
  split at h <;> try split at h
  all_goals cases df <;> cases h <;> exact ⟨rfl, rfl⟩

theorem spelledBy_of_decode3RF {f : FmtHw} (h : decode3RF op f wd ws wt = .ok i) :
    SpelledBy (word3RF op f wd ws wt) i := by
  unfold decode3RF at h
  split at h
  all_goals cases f <;> cases h <;> exact ⟨rfl, rfl⟩

theorem spelledBy_of_decodeVec (h : decodeVec op wd ws wt = .ok i) : SpelledBy (wordVec op wd ws wt) i := by
  unfold decodeVec at h
  split at h <;> cases h <;> exact ⟨rfl, rfl⟩

theorem spelledBy_of_decode2R (h : decode2R op df wd ws = .ok i) : SpelledBy (word2R op df wd ws) i := by
  unfold decode2R at h
  split at h
  all_goals cases df <;> cases h <;> exact ⟨rfl, rfl⟩

theorem spelledBy_of_decodeMove (h : decodeMove op wd ws = .ok i) : SpelledBy (wordMove op wd ws) i := by
  unfold decodeMove at h
  split at h <;> cases h
  exact ⟨rfl, rfl⟩

theorem spelledBy_of_decodeI8 {i8 : Nat} (hi8 : i8 < 256) (h : decodeI8 minor op i8 wd ws = .ok i) :
    SpelledBy (wordI8 minor op wd ws i8) i := by
  have hok : (decide (i8 ≤ 255) && true) = true := by simp; omega
  unfold decodeI8 at h
  split at h <;> try split at h
  all_goals cases h <;> exact ⟨rfl, hok⟩

theorem spelledBy_of_decodeBit {m : Nat} (hm : m < laneBits df) (h : decodeBit minor op df m wd ws = .ok i) :
    SpelledBy (wordBit minor op df wd ws m) i := by
  have hok : (decide (m < laneBits df) && true) = true := by simpa using hm
  unfold decodeBit at h
  split at h <;> try split at h
  all_goals cases df <;> cases h <;> exact ⟨rfl, hok⟩

theorem spelledBy_of_decodeElm {n : Nat} (hn : n < laneCount df) (h : decodeElm op df n wd ws = .ok i) :
    SpelledBy (wordElm op df wd ws n) i := by
  have hok : (true && decide (n < laneCount df)) = true := by simpa using hn
  unfold decodeElm at h
  split at h
  all_goals cases df <;> cases h <;> exact ⟨rfl, hok⟩

theorem spelledBy_of_u5 {i5 : Nat} (hi5 : i5 < 32)
    (h : encode i = wordI5 minor op df wd ws i5 ∧ i.encodable = (u5Ok i5 && true)) :
    SpelledBy (wordI5 minor op df wd ws i5) i :=
  ⟨h.1, h.2.trans (by simp [u5Ok]; omega)⟩

theorem spelledBy_of_s5 {i5 : Nat} (hi5 : i5 < 32)
    (h : encode i = wordI5 minor op df wd ws (unsigned 5 (signed 5 i5)) ∧
      i.encodable = (s5Ok (signed 5 i5) && true)) :
    SpelledBy (wordI5 minor op df wd ws i5) i :=
  ⟨h.1.trans (by rw [unsigned_signed5 hi5]), h.2.trans (by rw [s5Ok_signed5 hi5]; rfl)⟩

/-- Format I5, and its variant I10 for `ldi`. -/
theorem spelledBy_of_decodeI5 {i5 i10 : Nat} (hi5 : i5 < 32) (hi10 : i10 < 1024)
    (h : decodeI5 minor op df i5 i10 wd ws = .ok i) :
    SpelledBy (wordI5 minor op df wd ws i5) i ∨ minor = 7 ∧ op = 6 ∧ SpelledBy (wordI10 df wd i10) i := by
  unfold decodeI5 at h
  split at h
  case h_1 =>
    refine .inl ?_
    split at h <;> cases h
    case h_1 | h_2 | h_4 | h_6 => exact spelledBy_of_u5 hi5 (by cases df <;> exact ⟨rfl, rfl⟩)
    case h_3 | h_5 => exact spelledBy_of_s5 hi5 (by cases df <;> exact ⟨rfl, rfl⟩)
  case h_2 =>
    split at h <;> cases h
    case h_3 | h_5 => exact .inl (spelledBy_of_u5 hi5 (by cases df <;> exact ⟨rfl, rfl⟩))
    case h_1 | h_2 | h_4 => exact .inl (spelledBy_of_s5 hi5 (by cases df <;> exact ⟨rfl, rfl⟩))
    case h_6 =>
      have hword : wordI10 df wd (unsigned 10 (signed 10 i10)) = wordI10 df wd i10 := by
        rw [unsigned_signed10 hi10]
      have hok : (s10Ok (signed 10 i10) && true) = true := by rw [s10Ok_signed10 hi10]; rfl
      exact .inr ⟨rfl, rfl, by cases df <;> exact ⟨hword, hok⟩⟩
  case h_3 => cases h

end Formats

/-! ## The word of each format, from its fields -/

section FormatWords

variable {w : Word32} (hmajor : field w.toNat 31 26 = 30)
include hmajor

theorem word3R_of_fields : word3R (field w.toNat 5 0) (field w.toNat 25 23) (fmtOf (field w.toNat 22 21))
    (regField w.toNat 6) (regField w.toNat 11) (regField w.toNat 16) = w := by
  refine wordMsa_of_fields hmajor rfl ?_
  rw [fmtCode_fmtOf (field_lt _ 22 21)]
  simp only [field, regField]; omega

theorem wordI5_of_fields : wordI5 (field w.toNat 5 0) (field w.toNat 25 23) (fmtOf (field w.toNat 22 21))
    (regField w.toNat 6) (regField w.toNat 11) (field w.toNat 20 16) = w := by
  refine wordMsa_of_fields hmajor rfl ?_
  rw [fmtCode_fmtOf (field_lt _ 22 21)]
  simp only [field]; omega

theorem wordI10_of_fields (hminor : field w.toNat 5 0 = 7) (hop : field w.toNat 25 23 = 6) :
    wordI10 (fmtOf (field w.toNat 22 21)) (regField w.toNat 6) (field w.toNat 20 11) = w := by
  have := w.isLt
  apply BitVec.eq_of_toNat_eq
  rw [wordI10, BitVec.toNat_ofNat, fmtCode_fmtOf (field_lt _ 22 21)]
  simp only [field, regField] at hmajor hminor hop ⊢; omega

theorem wordI8_of_fields : wordI8 (field w.toNat 5 0) (field w.toNat 25 24) (regField w.toNat 6)
    (regField w.toNat 11) (field w.toNat 23 16) = w := by
  refine wordMsa_of_fields hmajor rfl ?_
  simp only [field]; omega

theorem wordBit_of_fields {df : Fmt} {m : Nat} (hdfm : dfmCode df m = field w.toNat 22 16) :
    wordBit (field w.toNat 5 0) (field w.toNat 25 23) df (regField w.toNat 6) (regField w.toNat 11) m = w := by
  refine wordMsa_of_fields hmajor rfl ?_
  rw [hdfm]; simp only [field]; omega

theorem wordElm_of_fields (hminor : field w.toNat 5 0 = 25) {df : Fmt} {n : Nat}
    (hdfn : dfnCode df n = field w.toNat 21 16) :
    wordElm (field w.toNat 25 22) df (regField w.toNat 6) (regField w.toNat 11) n = w := by
  refine wordMsa_of_fields hmajor hminor ?_
  rw [hdfn]; simp only [field]; omega

theorem wordMove_of_fields (hminor : field w.toNat 5 0 = 25) (hdfn : field w.toNat 21 16 = 62) :
    wordMove (field w.toNat 25 22) (regField w.toNat 6) (regField w.toNat 11) = w := by
  refine wordMsa_of_fields hmajor hminor ?_
  simp only [field] at hdfn ⊢; omega

theorem wordVec_of_fields (hminor : field w.toNat 5 0 = 30) :
    wordVec (field w.toNat 25 21) (regField w.toNat 6) (regField w.toNat 11) (regField w.toNat 16) = w := by
  refine wordMsa_of_fields hmajor hminor ?_
  simp only [field, regField]; omega

theorem word2R_of_fields (hminor : field w.toNat 5 0 = 30) (hop : field w.toNat 25 21 = 24) :
    word2R (field w.toNat 20 18) (fmtOf (field w.toNat 17 16)) (regField w.toNat 6) (regField w.toNat 11) = w := by
  refine wordMsa_of_fields hmajor hminor ?_
  rw [fmtCode_fmtOf (field_lt _ 17 16)]
  simp only [field] at hop ⊢; omega

theorem word3RF_of_fields (hminor : field w.toNat 5 0 = 28) :
    word3RF (field w.toNat 25 22) (if field w.toNat 21 21 = 0 then .h else .w) (regField w.toNat 6)
      (regField w.toNat 11) (regField w.toNat 16) = w := by
  refine wordMsa_of_fields hmajor hminor ?_
  by_cases hfmt : field w.toNat 21 21 = 0
  · rw [if_pos hfmt]; simp only [field, regField] at hfmt ⊢; omega
  · rw [if_neg hfmt]; simp only [field, regField] at hfmt ⊢; omega

/-! ## Every word that decodes -/

theorem spelledBy_of_decodeBitWord {i : Instr} (h : decodeBitWord w.toNat = .ok i) : SpelledBy w i := by
  unfold decodeBitWord at h
  split at h
  case h_1 => cases h
  case h_2 hdfm =>
    obtain ⟨hcode, hm⟩ := dfmCode_of_dfmOf hdfm
    exact wordBit_of_fields hmajor hcode ▸ spelledBy_of_decodeBit hm h

theorem spelledBy_of_decodeElmWord {i : Instr} (hminor : field w.toNat 5 0 = 25)
    (h : decodeElmWord w.toNat = .ok i) : SpelledBy w i := by
  unfold decodeElmWord at h
  split at h
  case isTrue hdfn => exact wordMove_of_fields hmajor hminor hdfn ▸ spelledBy_of_decodeMove h
  case isFalse =>
    split at h
    case h_1 => cases h
    case h_2 hdfn =>
      obtain ⟨hcode, hn⟩ := dfnCode_of_dfnOf hdfn
      exact wordElm_of_fields hmajor hminor hcode ▸ spelledBy_of_decodeElm hn h

theorem spelledBy_of_decodeVecWord {i : Instr} (hminor : field w.toNat 5 0 = 30)
    (h : decodeVecWord w.toNat = .ok i) : SpelledBy w i := by
  unfold decodeVecWord at h
  split_ifs at h with h2R hfloat
  · exact word2R_of_fields hmajor hminor h2R ▸ spelledBy_of_decode2R h
  · exact wordVec_of_fields hmajor hminor ▸ spelledBy_of_decodeVec h

theorem spelledBy_of_decodeMinor {i : Instr} (h : decodeMinor w.toNat = .ok i) : SpelledBy w i := by
  unfold decodeMinor at h
  split at h
  case h_1 | h_2 | h_3 => exact wordI8_of_fields hmajor ▸ spelledBy_of_decodeI8 (field_lt _ 23 16) h
  case h_4 | h_5 =>
    obtain hi5 | ⟨hminor, hop, hi10⟩ := spelledBy_of_decodeI5 (field_lt _ 20 16) (field_lt _ 20 11) h
    · exact wordI5_of_fields hmajor ▸ hi5
    · exact wordI10_of_fields hmajor hminor hop ▸ hi10
  case h_6 | h_7 => exact spelledBy_of_decodeBitWord hmajor h
  case h_8 | h_9 | h_10 | h_11 | h_12 | h_13 | h_14 | h_15 | h_16 =>
    exact word3R_of_fields hmajor ▸ spelledBy_of_decode3R h
  case h_17 hminor => exact spelledBy_of_decodeElmWord hmajor hminor h
  case h_20 hminor => exact word3RF_of_fields hmajor hminor ▸ spelledBy_of_decode3RF h
  case h_21 hminor => exact spelledBy_of_decodeVecWord hmajor hminor h
  all_goals cases h

end FormatWords

/-- A word that decodes is the word of its instruction, which is encodable. -/
theorem spelledBy_of_decode {w : Word32} {i : Instr} (h : decode w = .ok i) : SpelledBy w i := by
  rw [decode] at h
  split_ifs at h with hmajor
  exact spelledBy_of_decodeMinor hmajor h

/-- Settles O3: the fields the decoder reads are all the bits of the word. -/
theorem encodeOfDecode : Obligations.EncodeOfDecode := by
  unfold Obligations.EncodeOfDecode
  exact fun w i => spelledBy_of_decode

end Sys2Proof
end

section
/-! The decoder on the encoder's words (30_encoding R85 to R107). One lemma per word format: an encodable instruction
whose word has that format, and which the decoder's table names at the word's operation field, decodes from it. -/

namespace Sys2Proof

open Machine

section Formats

variable {i : Instr} {minor op : Nat} {df : Fmt} {wd ws wt : Fin 32}

theorem decode_encode_of_word3R (he : encode i = word3R minor op df wd ws wt)
    (hd : decode3R minor op df wd ws wt = .ok i) : decode (encode i) = .ok i := by
  have hrange : (13 ≤ minor ∧ minor ≤ 21) ∧ op < 8 := by
    unfold decode3R at hd
    split at hd <;> try split at hd
    all_goals cases df <;> cases hd <;> decide
  rw [he, decode_word3R df wd ws wt hrange.1 hrange.2, hd]

/-- The fields at which the table of formats I5 and I10 names an operation. -/
theorem decodeI5_range {i5 i10 : Nat} (hd : decodeI5 minor op df i5 i10 wd ws = .ok i) :
    (minor = 6 ∨ minor = 7) ∧ op < 8 := by
  unfold decodeI5 at hd
  split at hd <;> try split at hd
  all_goals cases hd <;> decide

theorem decode_encode_of_u5 {u5 : Nat} (he : encode i = wordI5 minor op df wd ws u5)
    (hok : i.encodable = (u5Ok u5 && true)) (h : i.encodable = true)
    (hd : decodeI5 minor op df u5 (u5 * 32 + ws.val) wd ws = .ok i) : decode (encode i) = .ok i := by
  have hu5 : u5 ≤ 31 := by simpa [u5Ok, hok] using h
  obtain ⟨hm, ho⟩ := decodeI5_range hd
  rw [he, decode_wordI5 df wd ws hm ho (Nat.lt_succ_of_le hu5), hd]

theorem decode_encode_of_s5 {s5 : Int} {mk : Int → Instr} (hi : mk s5 = i)
    (he : encode i = wordI5 minor op df wd ws (unsigned 5 s5))
    (hok : i.encodable = (s5Ok s5 && true)) (h : i.encodable = true)
    (hd : ∀ i5 i10, decodeI5 minor op df i5 i10 wd ws = .ok (mk (signed 5 i5))) : decode (encode i) = .ok i := by
  have hs5 : -16 ≤ s5 ∧ s5 ≤ 15 := by simpa [s5Ok, hok] using h
  obtain ⟨hm, ho⟩ := decodeI5_range (hd 0 0)
  rw [he, decode_wordI5 df wd ws hm ho (unsigned_lt 5 s5), hd, signed_unsigned5 hs5.1 hs5.2, hi]

theorem decode_encode_of_wordI10 {s10 : Int} (hi : Instr.ldi df wd s10 = i)
    (he : encode i = wordI10 df wd (unsigned 10 s10)) (hok : i.encodable = (s10Ok s10 && true))
    (h : i.encodable = true) : decode (encode i) = .ok i := by
  have hs10 : -512 ≤ s10 ∧ s10 ≤ 511 := by simpa [s10Ok, hok] using h
  rw [he, decode_wordI10 df wd (unsigned_lt 10 s10), signed_unsigned10 hs10.1 hs10.2, hi]

theorem decode_encode_of_wordBit {m : Nat} (he : encode i = wordBit minor op df wd ws m)
    (hok : i.encodable = (mOk df m && true)) (h : i.encodable = true)
    (hd : decodeBit minor op df m wd ws = .ok i) : decode (encode i) = .ok i := by
  have hrange : (minor = 9 ∨ minor = 10) ∧ op < 8 := by
    unfold decodeBit at hd
    split at hd <;> try split at hd
    all_goals cases hd <;> decide
  have hlt : m < laneBits df := by simpa [mOk, hok] using h
  rw [he, decode_wordBit wd ws hrange.1 hrange.2 hlt, hd]

theorem decode_encode_of_wordI8 {i8 : Nat} (he : encode i = wordI8 minor op wd ws i8)
    (hok : i.encodable = (i8Ok i8 && true)) (h : i.encodable = true)
    (hd : decodeI8 minor op i8 wd ws = .ok i) : decode (encode i) = .ok i := by
  have hrange : minor ≤ 2 ∧ op < 4 := by
    unfold decodeI8 at hd
    split at hd <;> try split at hd
    all_goals cases hd <;> decide
  have hi8 : i8 ≤ 255 := by simpa [i8Ok, hok] using h
  rw [he, decode_wordI8 wd ws hrange.1 hrange.2 (Nat.lt_succ_of_le hi8), hd]

theorem decode_encode_of_wordElm {n : Nat} (he : encode i = wordElm op df wd ws n)
    (hok : i.encodable = (true && nOk df n)) (h : i.encodable = true)
    (hd : decodeElm op df n wd ws = .ok i) : decode (encode i) = .ok i := by
  have ho : op < 16 := by
    unfold decodeElm at hd
    split at hd
    all_goals cases df <;> cases hd <;> decide
  have hn : n < laneCount df := by simpa [nOk, hok] using h
  rw [he, decode_wordElm wd ws ho hn, hd]

theorem decode_encode_of_wordVec (he : encode i = wordVec op wd ws wt)
    (hd : decodeVec op wd ws wt = .ok i) : decode (encode i) = .ok i := by
  have ho : op < 24 := by
    unfold decodeVec at hd
    split at hd
    all_goals cases hd <;> decide
  rw [he, decode_wordVec wd ws wt ho, hd]

theorem decode_encode_of_word2R (he : encode i = word2R op df wd ws)
    (hd : decode2R op df wd ws = .ok i) : decode (encode i) = .ok i := by
  have ho : op < 8 := by
    unfold decode2R at hd
    split at hd
    all_goals cases hd <;> decide
  rw [he, decode_word2R df wd ws ho, hd]

theorem decode_encode_of_word3RF {f : FmtHw} (he : encode i = word3RF op f wd ws wt)
    (hd : decode3RF op f wd ws wt = .ok i) : decode (encode i) = .ok i := by
  have ho : op < 16 := by
    unfold decode3RF at hd
    split at hd
    all_goals cases hd <;> decide
  rw [he, decode_word3RF f wd ws wt ho, hd]

end Formats

/-- The decoder inverts the encoder: the cases are grouped by the format of the word. -/
theorem decode_encode {i : Instr} (h : i.encodable = true) : decode (encode i) = .ok i := by
  cases i
  case addvB | addvH | addvW | addvD | subvB | subvH | subvW | subvD | addsSB | addsSH | addsSW | addsSD |
      addsUB | addsUH | addsUW | addsUD | subsSB | subsSH | subsSW | subsSD | subsUB | subsUH | subsUW |
      subsUD | subsusUB | subsusUH | subsusUW | subsusUD | subsuuSB | subsuuSH | subsuuSW | subsuuSD | asubSB |
      asubSH | asubSW | asubSD | asubUB | asubUH | asubUW | asubUD | addAB | addAH | addAW | addAD | addsAB |
      addsAH | addsAW | addsAD | aveSB | aveSH | aveSW | aveSD | aveUB | aveUH | aveUW | aveUD | averSB |
      averSH | averSW | averSD | averUB | averUH | averUW | averUD | maxAB | maxAH | maxAW | maxAD | minAB |
      minAH | minAW | minAD | maxSB | maxSH | maxSW | maxSD | maxUB | maxUH | maxUW | maxUD | minSB | minSH |
      minSW | minSD | minUB | minUH | minUW | minUD | ceqB | ceqH | ceqW | ceqD | cltSB | cltSH | cltSW |
      cltSD | cltUB | cltUH | cltUW | cltUD | cleSB | cleSH | cleSW | cleSD | cleUB | cleUH | cleUW | cleUD |
      haddSH | haddSW | haddSD | haddUH | haddUW | haddUD | hsubSH | hsubSW | hsubSD | hsubUH | hsubUW |
      hsubUD | dotpSH | dotpSW | dotpSD | dotpUH | dotpUW | dotpUD | dpaddSH | dpaddSW | dpaddSD | dpaddUH |
      dpaddUW | dpaddUD | dpsubSH | dpsubSW | dpsubSD | dpsubUH | dpsubUW | dpsubUD | mulvB | mulvH | mulvW |
      mulvD | maddvB | maddvH | maddvW | maddvD | msubvB | msubvH | msubvW | msubvD | divSB | divSH | divSW |
      divSD | divUB | divUH | divUW | divUD | modSB | modSH | modSW | modSD | modUB | modUH | modUW | modUD |
      bclrB | bclrH | bclrW | bclrD | bsetB | bsetH | bsetW | bsetD | bnegB | bnegH | bnegW | bnegD | binslB |
      binslH | binslW | binslD | binsrB | binsrH | binsrW | binsrD | sllB | sllH | sllW | sllD | sraB | sraH |
      sraW | sraD | srlB | srlH | srlW | srlD | srarB | srarH | srarW | srarD | srlrB | srlrH | srlrW | srlrD |
      ilvevB | ilvevH | ilvevW | ilvevD | ilvodB | ilvodH | ilvodW | ilvodD | ilvlB | ilvlH | ilvlW | ilvlD |
      ilvrB | ilvrH | ilvrW | ilvrD | pckevB | pckevH | pckevW | pckevD | pckodB | pckodH | pckodW | pckodD |
      vshfB | vshfH | vshfW | vshfD | sldB | sldH | sldW | sldD | splatB | splatH | splatW | splatD =>
    exact decode_encode_of_word3R rfl rfl
  case addviB | addviH | addviW | addviD | subviB | subviH | subviW | subviD | maxiUB | maxiUH | maxiUW |
      maxiUD | miniUB | miniUH | miniUW | miniUD | cltiUB | cltiUH | cltiUW | cltiUD | cleiUB | cleiUH |
      cleiUW | cleiUD =>
    exact decode_encode_of_u5 rfl rfl h rfl
  case maxiSB | maxiSH | maxiSW | maxiSD | miniSB | miniSH | miniSW | miniSD | ceqiB | ceqiH | ceqiW | ceqiD |
      cltiSB | cltiSH | cltiSW | cltiSD | cleiSB | cleiSH | cleiSW | cleiSD =>
    exact decode_encode_of_s5 rfl rfl rfl h fun _ _ => rfl
  case ldiB | ldiH | ldiW | ldiD =>
    exact decode_encode_of_wordI10 rfl rfl rfl h
  case bclriB | bclriH | bclriW | bclriD | bsetiB | bsetiH | bsetiW | bsetiD | bnegiB | bnegiH | bnegiW |
      bnegiD | binsliB | binsliH | binsliW | binsliD | binsriB | binsriH | binsriW | binsriD | satSB | satSH |
      satSW | satSD | satUB | satUH | satUW | satUD | slliB | slliH | slliW | slliD | sraiB | sraiH | sraiW |
      sraiD | srliB | srliH | srliW | srliD | srariB | srariH | srariW | srariD | srlriB | srlriH | srlriW |
      srlriD =>
    exact decode_encode_of_wordBit rfl rfl h rfl
  case andiB | oriB | noriB | xoriB | bmnziB | bmziB | bseliB | shfB | shfH | shfW =>
    exact decode_encode_of_wordI8 rfl rfl h rfl
  case copySB | copySH | copySW | copySD | copyUB | copyUH | copyUW | insertB | insertH | insertW | insertD |
      insveB | insveH | insveW | insveD | sldiB | sldiH | sldiW | sldiD | splatiB | splatiH | splatiW |
      splatiD =>
    exact decode_encode_of_wordElm rfl rfl h rfl
  case moveV =>
    exact decode_move ..
  case andV | orV | norV | xorV | bmnzV | bmzV | bselV =>
    exact decode_encode_of_wordVec rfl rfl
  case fillB | fillH | fillW | fillD | pcntB | pcntH | pcntW | pcntD | nlocB | nlocH | nlocW | nlocD | nlzcB |
      nlzcH | nlzcW | nlzcD =>
    exact decode_encode_of_word2R rfl rfl
  case mulQH | mulrQH | maddQH | maddrQH | msubQH | msubrQH =>
    exact decode_encode_of_word3RF (f := .h) rfl rfl
  case mulQW | mulrQW | maddQW | maddrQW | msubQW | msubrQW =>
    exact decode_encode_of_word3RF (f := .w) rfl rfl

/-- Settles O2. -/
theorem decodeOfEncode : Obligations.DecodeOfEncode := by
  unfold Obligations.DecodeOfEncode
  exact fun i => decode_encode

end Sys2Proof
end

section
/-! When an operation stops, and what a step and a run make of it: the exact conditions of the two refusals and of the
fault, and that the fault is out of reach of words (40 R136, R145; 60 R371, R375; 30 R83, R107). -/

namespace Sys2Proof.Machine

/-! ## The conditions of the outcomes -/

theorem not_laneIndexOk {i : Instr} {df : Fmt} {n : Nat} (hi : i.laneIndex = some (df, n))
    (hn : laneCount df ≤ n) : i.laneIndexOk = false := by
  simp [Instr.laneIndexOk, hi, nOk, hn]

/-- An instruction whose immediate is out of range has neither a lane index nor a width condition. -/
theorem no_other_check {i : Instr} (h : i.wellFormed = false) : i.laneIndex = none ∧ i.needsGprLen64 = false :=
  (Laws.OneCheck.all i).resolve_left (by simp [h])

/-- Settles O43: of the outcomes of `exec`, the fault is the one whose conditions these are. -/
theorem laneIndexOutOfRangeFaults : Obligations.LaneIndexOutOfRangeFaults := by
  unfold Obligations.LaneIndexOutOfRangeFaults
  intro s i df n
  constructor
  · intro h
    have ho : ExecOutcome i s (.fault (.reservedInstruction df n)) := h ▸ exec_outcome i s
    cases ho with
    | index hi hn hg => exact ⟨hi, hn, hg⟩
  · rintro ⟨hi, hn, hg⟩
    have hbad := not_laneIndexOk hi hn
    have ho := exec_outcome i s
    generalize exec i s = r at ho ⊢
    cases ho with
    | immediate h => simp [(no_other_check h).1] at hi
    | width h h32 => simp [hg h] at h32
    | index hi' _ _ =>
      rw [hi] at hi'
      cases hi'; rfl
    | vector _ ha _ _ => simp [ha.laneIndexOk] at hbad
    | scalar _ ha _ _ => simp [ha.laneIndexOk] at hbad

/-- Settles O46: an admitted instruction meets the condition of no refusal and of no fault. -/
theorem admittedInstructionsComplete : Obligations.AdmittedInstructionsComplete := by
  unfold Obligations.AdmittedInstructionsComplete
  intro s i hw hn hg
  have ho := exec_outcome i s
  generalize exec i s = r at ho ⊢
  cases ho with
  | immediate h => simp [hw] at h
  | width h h32 => simp [hg h] at h32
  | index hi hlt _ => simp [not_laneIndexOk hi hlt] at hn
  | vector V _ _ _ => exact ⟨_, rfl⟩
  | scalar v _ _ _ => exact ⟨_, rfl⟩

/-- Settles O47: the other outcomes ask for a well-formed immediate, or for a check that such an instruction does not
make. -/
theorem illFormedImmediateRefused : Obligations.IllFormedImmediateRefused := by
  unfold Obligations.IllFormedImmediateRefused
  intro s i hw
  obtain ⟨hindex, hwidth⟩ := no_other_check hw
  have ho := exec_outcome i s
  generalize exec i s = r at ho ⊢
  cases ho with
  | immediate _ => rfl
  | width h _ => simp [hwidth] at h
  | index hi _ _ => simp [hindex] at hi
  | vector _ ha _ _ => simp [ha.wellFormed] at hw
  | scalar _ ha _ _ => simp [ha.wellFormed] at hw

/-- Settles O48. -/
theorem reservedAtGprLen32 : Obligations.ReservedAtGprLen32 := by
  unfold Obligations.ReservedAtGprLen32
  intro s i
  constructor
  · intro h
    have ho : ExecOutcome i s (.refused .reservedAtGprLen32) := h ▸ exec_outcome i s
    cases ho with
    | width hn hg => exact ⟨hn, hg⟩
  · rintro ⟨hn, h32⟩
    have hno : ¬ (i.needsGprLen64 = true → s.params.gprLen = .w64) := fun h => by simp [h hn] at h32
    have ho := exec_outcome i s
    generalize exec i s = r at ho ⊢
    cases ho with
    | immediate h => simp [(no_other_check h).2] at hn
    | width _ _ => rfl
    | index _ _ hg => exact absurd hg hno
    | vector _ ha _ _ => exact absurd ha.gprLen hno
    | scalar _ ha _ _ => exact absurd ha.gprLen hno

/-! ## The step -/

/-- Settles O6: the step hands over what `exec` answers at the state with the event taken. -/
theorem stepRunsDecodedInstruction : Obligations.StepRunsDecodedInstruction := by
  unfold Obligations.StepRunsDecodedInstruction
  intro s i w g rest h
  have hstep : step s = handOver (issuedAt s g rest) (exec i (issuedAt s g rest)) := by
    obtain ⟨hin, hw⟩ | hin := h
    · exact step_of_issues hin (.inr ⟨w, rfl, hw⟩)
    · exact step_of_issues hin (.inl rfl)
  refine ⟨fun t ht => ?_, fun f hf => ?_, fun why hwhy => ?_⟩
  · rw [hstep, ht, handOver_next]
  · rw [hstep, hf, handOver_fault]; rfl
  · rw [hstep, hwhy, handOver_refused]

/-- Settles O7. -/
theorem outsideEventsAndEndOfRun : Obligations.OutsideEventsAndEndOfRun := by
  unfold Obligations.OutsideEventsAndEndOfRun
  intro s m rest
  refine ⟨fun h => ?_, fun h => ?_, fun h => ?_⟩ <;> rw [step, h] <;> rfl

/-! ## Runs -/

theorem run_ne_fault (k : Nat) (s : State) (f : Fault) : core.run k s ≠ .fault f := by
  induction k generalizing s with
  | zero => exact fun h => nomatch h
  | succ k ih =>
    cases hs : step s with
    | next t => rw [run_succ_of_next k hs]; exact ih t
    | fault f' => exact absurd hs (step_ne_fault s f')
    | refused why => rw [run_succ_of_refused k hs]; exact fun h => nomatch h

/-- What an event issues has its lane index in range: a word spells no other instruction (30_encoding R84). -/
theorem laneIndexOk_of_issues {e : Event} {i : Instr} {g : Scalar} (h : Issues e i g) (hok : e.indexOk = true) :
    i.laneIndexOk = true := by
  obtain rfl | ⟨w, rfl, hw⟩ := h
  · exact hok
  · exact (Bool.and_eq_true_iff.mp (spelledBy_of_decode hw).2).2

theorem exec_ne_fault_of_laneIndexOk {i : Instr} (h : i.laneIndexOk = true) (s : State) (f : Fault) :
    exec i s ≠ .fault f := by
  intro hf
  obtain ⟨df, n, hi, hn, -⟩ := faultOnlyFromLaneIndex s i f hf
  simp [not_laneIndexOk hi hn] at h

/-- A step on an event whose lane index is in range takes it and hands over no fault. -/
theorem step_next_of_indexOk {s t : State} (hin : ∀ e ∈ s.input, e.indexOk = true) (h : step s = .next t) :
    t.faults = s.faults ∧ ∀ e ∈ t.input, e.indexOk = true := by
  obtain ⟨e, rest, he, hcases⟩ := step_next_cases h
  rw [he] at hin
  obtain ⟨hok, hrest⟩ := List.forall_mem_cons.mp hin
  obtain ⟨i, g, -, hx⟩ | ⟨i, g, f, hi, hf, -⟩ | ⟨m, -, rfl⟩ | ⟨m, -, rfl⟩ := hcases
  · obtain ⟨-, -, -, hinput, hfaults, -⟩ := writesOnlyNamedDestination _ _ _ hx
    exact ⟨hfaults, hinput ▸ hrest⟩
  · exact absurd hf (exec_ne_fault_of_laneIndexOk (laneIndexOk_of_issues hi hok) _ f)
  · exact ⟨rfl, hrest⟩
  · exact ⟨rfl, hrest⟩

/-- Settles O45, by induction on the number of steps. -/
theorem inRangeInputNeverFaults : Obligations.InRangeInputNeverFaults := by
  unfold Obligations.InRangeInputNeverFaults
  intro s hin
  refine ⟨fun k f => run_ne_fault k s f, fun k => ?_⟩
  induction k generalizing s with
  | zero => intro t h; cases h; rfl
  | succ k ih =>
    intro t h
    cases hs : step s with
    | next u =>
      obtain ⟨hfaults, hinput⟩ := step_next_of_indexOk hin hs
      rw [run_succ_of_next k hs] at h
      exact (ih u hinput t h).trans hfaults
    | fault f => exact absurd hs (step_ne_fault s f)
    | refused why => rw [run_succ_of_refused k hs] at h; cases h

/-- Settles O1. -/
theorem sampleWordsDecode : Obligations.SampleWordsDecode := by
  unfold Obligations.SampleWordsDecode
  exact ⟨rfl, rfl, rfl, rfl, rfl, rfl, rfl, rfl, rfl, rfl, rfl, rfl⟩

end Sys2Proof.Machine
end

section
/-! The words that spell nothing (30_encoding R106, R107; 00_scope R6): a field that the tables mark reserved makes the
decoder answer a reserved reason, a word outside the block makes it answer `outsideBlock`, and there is no other word
that it rejects. -/

namespace Sys2Proof

open Machine

/-- A rejection for a reserved minor opcode, operation or format. -/
inductive IsReserved : Except Reject Instr → Prop
  | minor : IsReserved (.error .reservedMinor)
  | operation : IsReserved (.error .reservedOperation)
  | format : IsReserved (.error .reservedFormat)

/-! ## Reserved fields, format by format -/

section Reserved

variable {minor op : Nat} {df : Fmt} {wd ws wt : Fin 32}

theorem isReserved_decode3R (h : minor = 15 ∧ op ∈ [1, 6, 7] ∨ minor = 17 ∧ op ∈ [6, 7] ∨ minor = 18 ∧ op = 3 ∨
    minor = 19 ∧ op ∈ [6, 7] ∨ minor = 21 ∧ op = 3) : IsReserved (decode3R minor op df wd ws wt) := by
  simp only [List.mem_cons, List.not_mem_nil, or_false] at h
  obtain ⟨rfl, rfl | rfl | rfl⟩ | ⟨rfl, rfl | rfl⟩ | ⟨rfl, rfl⟩ | ⟨rfl, rfl | rfl⟩ | ⟨rfl, rfl⟩ := h <;>
    exact .operation

/-- The dot products have no byte form, whatever operation the word names. -/
theorem isReserved_decode3R_dot_byte (ho : op < 8) : IsReserved (decode3R 19 op .b wd ws wt) := by
  obtain h | rfl | rfl : op < 6 ∨ op = 6 ∨ op = 7 := by omega
  · interval_cases op <;> exact .format
  · exact .operation
  · exact .operation

theorem isReserved_decode3R_horizontal_byte (ho : op < 8) (h : 4 ≤ op) :
    IsReserved (decode3R 21 op .b wd ws wt) := by
  interval_cases op <;> exact .format

theorem isReserved_decodeI5 {i5 i10 : Nat} (h : minor = 6 ∧ op ∈ [6, 7] ∨ minor = 7 ∧ op ∈ [1, 7]) :
    IsReserved (decodeI5 minor op df i5 i10 wd ws) := by
  simp only [List.mem_cons, List.not_mem_nil, or_false] at h
  obtain ⟨rfl, rfl | rfl⟩ | ⟨rfl, rfl | rfl⟩ := h <;> exact .operation

theorem isReserved_decodeBit {m : Nat} (ho : op < 8) (h : 4 ≤ op) : IsReserved (decodeBit 10 op df m wd ws) := by
  interval_cases op <;> exact .operation

theorem isReserved_decodeI8 {i8 : Nat} (h : minor = 1 ∨ minor = 2) : IsReserved (decodeI8 minor 3 i8 wd ws) := by
  obtain rfl | rfl := h
  · exact .operation
  · exact .format

theorem isReserved_decodeElm {n : Nat} (ho : op < 16) (h : 6 ≤ op ∨ op = 3 ∧ df = .d) :
    IsReserved (decodeElm op df n wd ws) := by
  obtain h | ⟨rfl, rfl⟩ := h
  · interval_cases op <;> exact .operation
  · exact .format

theorem isReserved_decodeMove (ho : op < 16) (h : 3 ≤ op) : IsReserved (decodeMove op wd ws) := by
  interval_cases op <;> exact .operation

theorem isReserved_decodeVec (ho : op < 32) (h : 7 ≤ op) : IsReserved (decodeVec op wd ws wt) := by
  interval_cases op <;> exact .operation

theorem isReserved_decode2R (ho : op < 8) (h : 4 ≤ op) : IsReserved (decode2R op df wd ws) := by
  interval_cases op <;> exact .operation

theorem isReserved_decode3RF {f : FmtHw} (h : op ∈ [0, 7, 8, 15]) : IsReserved (decode3RF op f wd ws wt) := by
  simp only [List.mem_cons, List.not_mem_nil, or_false] at h
  obtain rfl | rfl | rfl | rfl := h <;> exact .operation

theorem dfmOf_of_ge {u : Nat} (h : 120 ≤ u) : dfmOf u = none := by
  rw [dfmOf, if_neg (by omega), if_neg (by omega), if_neg (by omega), if_neg (by omega)]

theorem dfnOf_eq_none {u : Nat} (h : 16 ≤ u ∧ u < 32 ∨ 40 ≤ u ∧ u < 48 ∨ 52 ≤ u ∧ u < 56 ∨ 58 ≤ u) :
    dfnOf u = none := by
  rw [dfnOf, if_neg (by omega), if_neg (by omega), if_neg (by omega), if_neg (by omega)]

theorem dfnOf_d {u : Nat} (h : 56 ≤ u ∧ u < 58) : dfnOf u = some (.d, u - 56) := by
  rw [dfnOf, if_neg (by omega), if_neg (by omega), if_neg (by omega), if_pos h]

end Reserved

/-! ## Reserved words -/

section Words

variable {x : Nat}

theorem isReserved_of_minor (h : field x 5 0 ∈ [3, 4, 5, 8, 11, 12, 22, 23, 24, 29, 31] ∨ 40 ≤ field x 5 0) :
    IsReserved (decodeMinor x) := by
  unfold decodeMinor
  split
  case h_30 => exact .minor
  all_goals
    rename_i hm
    simp [hm] at h

theorem isReserved_decodeBitWord (h : 120 ≤ field x 22 16) : IsReserved (decodeBitWord x) := by
  rw [decodeBitWord, dfmOf_of_ge h]
  exact .format

theorem isReserved_decodeBitWord_of_op (hm : field x 5 0 = 10) (h : 4 ≤ field x 25 23) :
    IsReserved (decodeBitWord x) := by
  unfold decodeBitWord
  split
  · exact .format
  · rw [hm]
    exact isReserved_decodeBit (field_lt x 25 23) h

theorem isReserved_decodeElmWord (h : field x 21 16 ≠ 62 ∧ dfnOf (field x 21 16) = none ∨
    field x 21 16 ≠ 62 ∧ 6 ≤ field x 25 22 ∨ field x 21 16 = 62 ∧ 3 ≤ field x 25 22 ∨
    field x 25 22 = 3 ∧ 56 ≤ field x 21 16 ∧ field x 21 16 < 58) : IsReserved (decodeElmWord x) := by
  have ho := field_lt x 25 22
  unfold decodeElmWord
  obtain ⟨h62, hnone⟩ | ⟨h62, h6⟩ | ⟨h62, h3⟩ | ⟨h3, hd⟩ := h
  · rw [if_neg h62, hnone]
    exact .format
  · rw [if_neg h62]
    split
    · exact .format
    · exact isReserved_decodeElm ho (.inl h6)
  · rw [if_pos h62]
    exact isReserved_decodeMove ho h3
  · rw [if_neg (by omega), dfnOf_d hd]
    exact isReserved_decodeElm ho (.inr ⟨h3, rfl⟩)

theorem isReserved_decodeVecWord (h : field x 25 21 ≠ 24 ∧ field x 25 21 ≠ 25 ∧ 7 ≤ field x 25 21 ∨
    field x 25 21 = 24 ∧ 4 ≤ field x 20 18) : IsReserved (decodeVecWord x) := by
  unfold decodeVecWord
  obtain ⟨h24, h25, h7⟩ | ⟨h24, h4⟩ := h
  · rw [if_neg h24, if_neg h25]
    exact isReserved_decodeVec (field_lt x 25 21) h7
  · rw [if_pos h24]
    exact isReserved_decode2R (field_lt x 20 18) h4

theorem isReserved_of_reservedWord (h : ReservedWord x) : IsReserved (decodeMinor x) := by
  unfold ReservedWord at h
  extract_lets minor op3 op2 op4 op5 df dfm dfn at h
  have ho : op3 < 8 := field_lt x 25 23
  obtain h | h | h | h | h | h | h | ⟨hm, hdf⟩ | ⟨hm, h4, hdf⟩ | h | h | ⟨hm, h4⟩ | ⟨hm, h3⟩ | ⟨hm, hdfm⟩ | ⟨hm, hdfn⟩ |
    ⟨hm, h⟩ | ⟨hm, h⟩ | ⟨hm, h⟩ | ⟨hm, h⟩ | ⟨hm, h⟩ | ⟨hm, h⟩ := h
  · exact isReserved_of_minor (.inl h)
  · exact isReserved_of_minor (.inr h)
  · rw [decodeMinor_3R h.1 (by decide)]; exact isReserved_decode3R (.inl ⟨rfl, h.2⟩)
  · rw [decodeMinor_3R h.1 (by decide)]; exact isReserved_decode3R (.inr (.inl ⟨rfl, h.2⟩))
  · rw [decodeMinor_3R h.1 (by decide)]; exact isReserved_decode3R (.inr (.inr (.inl ⟨rfl, h.2⟩)))
  · rw [decodeMinor_3R h.1 (by decide)]; exact isReserved_decode3R (.inr (.inr (.inr (.inl ⟨rfl, h.2⟩))))
  · rw [decodeMinor_3R h.1 (by decide)]; exact isReserved_decode3R (.inr (.inr (.inr (.inr ⟨rfl, h.2⟩))))
  · rw [decodeMinor_3R hm (by decide), show field x 22 21 = 0 from hdf]; exact isReserved_decode3R_dot_byte ho
  · rw [decodeMinor_3R hm (by decide), show field x 22 21 = 0 from hdf]
    exact isReserved_decode3R_horizontal_byte ho h4
  · rw [decodeMinor_i5 h.1 (by decide)]; exact isReserved_decodeI5 (.inl ⟨rfl, h.2⟩)
  · rw [decodeMinor_i5 h.1 (by decide)]; exact isReserved_decodeI5 (.inr ⟨rfl, h.2⟩)
  · rw [decodeMinor_bit hm (by decide)]; exact isReserved_decodeBitWord_of_op hm h4
  · have hm' : minor = 1 ∨ minor = 2 := by simpa using hm
    rw [decodeMinor_i8 rfl (by omega), show field x 25 24 = 3 from h3]; exact isReserved_decodeI8 hm'
  · have hm' : minor = 9 ∨ minor = 10 := by simpa using hm
    rw [decodeMinor_bit rfl hm']; exact isReserved_decodeBitWord hdfm
  · rw [decodeMinor_elm hm]
    exact isReserved_decodeElmWord (.inl ⟨by omega, dfnOf_eq_none (by omega)⟩)
  · rw [decodeMinor_elm hm]; exact isReserved_decodeElmWord (.inr (.inl h))
  · rw [decodeMinor_elm hm]; exact isReserved_decodeElmWord (.inr (.inr (.inl h)))
  · rw [decodeMinor_elm hm]; exact isReserved_decodeElmWord (.inr (.inr (.inr h)))
  · rw [decodeMinor_vec hm]; exact isReserved_decodeVecWord (.inl (by omega))
  · rw [decodeMinor_vec hm]; exact isReserved_decodeVecWord (.inr h)
  · rw [decodeMinor_3RF hm]; exact isReserved_decode3RF h

/-- Floating point, loads and stores, and control-register moves (00_scope R6). -/
theorem decodeMinor_of_outsideWord (h : OutsideWord x) : decodeMinor x = .error .outsideBlock := by
  obtain h | ⟨h1, h2⟩ | ⟨hm, h62, h2⟩ | ⟨hm, h25⟩ | ⟨hm, hop⟩ := h
  · simp only [List.mem_cons, List.not_mem_nil, or_false] at h
    obtain h | h := h <;> (rw [decodeMinor, h]; rfl)
  · rw [decodeMinor]
    interval_cases field x 5 0 <;> rfl
  · rw [decodeMinor_elm hm, decodeElmWord, if_pos h62]
    interval_cases field x 25 22 <;> rfl
  · rw [decodeMinor_vec hm, decodeVecWord, if_neg (by omega), if_pos h25]
  · rw [decodeMinor_3RF hm]
    simp only [List.mem_cons, List.not_mem_nil, or_false] at hop
    obtain h | h | h | h | h | h := hop <;> rw [h] <;> rfl

end Words

/-! ## What the decoder rejects -/

section Rejected

variable {minor op : Nat} {df : Fmt} {wd ws wt : Fin 32} {why : Reject}

theorem of_decode3R_error (ho : op < 8) (hm : 13 ≤ minor ∧ minor ≤ 21)
    (h : decode3R minor op df wd ws wt = .error why) :
    minor = 15 ∧ op ∈ [1, 6, 7] ∨ minor = 17 ∧ op ∈ [6, 7] ∨ minor = 18 ∧ op = 3 ∨ minor = 19 ∧ op ∈ [6, 7] ∨
      minor = 21 ∧ op = 3 ∨ minor = 19 ∧ df = .b ∨ minor = 21 ∧ 4 ≤ op ∧ df = .b := by
  unfold decode3R at h
  split at h <;> try split at h
  all_goals cases df <;> cases h <;> simp_all <;> omega

theorem of_decodeI5_error {i5 i10 : Nat} (ho : op < 8) (hm : minor = 6 ∨ minor = 7)
    (h : decodeI5 minor op df i5 i10 wd ws = .error why) :
    minor = 6 ∧ op ∈ [6, 7] ∨ minor = 7 ∧ op ∈ [1, 7] := by
  unfold decodeI5 at h
  split at h <;> try split at h
  all_goals cases h <;> simp_all <;> omega

theorem of_decodeBit_error {m : Nat} (ho : op < 8) (hm : minor = 9 ∨ minor = 10)
    (h : decodeBit minor op df m wd ws = .error why) : minor = 10 ∧ 4 ≤ op := by
  unfold decodeBit at h
  split at h <;> try split at h
  all_goals cases h <;> simp_all <;> omega

theorem of_decodeI8_error {i8 : Nat} (ho : op < 4) (hm : minor ≤ 2)
    (h : decodeI8 minor op i8 wd ws = .error why) : minor ∈ [1, 2] ∧ op = 3 := by
  unfold decodeI8 at h
  split at h <;> try split at h
  all_goals cases h <;> simp_all <;> omega

theorem of_decodeElm_error {n : Nat} (h : decodeElm op df n wd ws = .error why) : 6 ≤ op ∨ op = 3 ∧ df = .d := by
  unfold decodeElm at h
  split at h
  all_goals cases df <;> cases h <;> simp_all <;> omega

theorem of_decodeMove_error (h : decodeMove op wd ws = .error why) : op < 2 ∨ 3 ≤ op := by
  unfold decodeMove at h
  split at h <;> cases h <;> simp_all
  omega

theorem of_decodeVec_error (h : decodeVec op wd ws wt = .error why) : 7 ≤ op := by
  unfold decodeVec at h
  split at h <;> cases h
  simp_all; omega

theorem of_decode2R_error (h : decode2R op df wd ws = .error why) : 4 ≤ op := by
  unfold decode2R at h
  split at h <;> cases h
  simp_all; omega

theorem of_decode3RF_error {f : FmtHw} (ho : op < 16) (h : decode3RF op f wd ws wt = .error why) :
    op ∈ [0, 7, 8, 15] ∨ op ∈ [1, 2, 3, 9, 10, 11] := by
  unfold decode3RF at h
  split at h <;> cases h <;> simp_all
  omega

theorem ge_of_dfmOf {u : Nat} (h : dfmOf u = none) : 120 ≤ u := by
  by_contra hlt
  rw [dfmOf] at h
  split_ifs at h; omega

theorem of_dfnOf_eq_none {u : Nat} (h : dfnOf u = none) :
    16 ≤ u ∧ u < 32 ∨ 40 ≤ u ∧ u < 48 ∨ 52 ≤ u ∧ u < 56 ∨ 58 ≤ u := by
  rw [dfnOf] at h
  split_ifs at h; omega

theorem of_dfnOf_d {u n : Nat} (h : dfnOf u = some (.d, n)) : 56 ≤ u ∧ u < 58 := by
  rw [dfnOf] at h
  split_ifs at h with _ _ _ hd <;> cases h
  exact hd

theorem fmtOf_eq_b {u : Nat} (hu : u < 4) (h : fmtOf u = .b) : u = 0 := by
  interval_cases u
  · rfl
  all_goals cases h

variable {x : Nat}

theorem reservedWord_of_decodeBitWord_error (hm : field x 5 0 = 9 ∨ field x 5 0 = 10)
    (h : decodeBitWord x = .error why) : ReservedWord x := by
  unfold decodeBitWord at h
  split at h
  case h_1 hnone => simp [ReservedWord, hm, ge_of_dfmOf hnone]
  case h_2 =>
    obtain ⟨hm10, hop⟩ := of_decodeBit_error (field_lt x 25 23) hm h
    simp [ReservedWord, hm10, hop]

theorem rejected_of_decodeElmWord_error (hm : field x 5 0 = 25) (h : decodeElmWord x = .error why) :
    ReservedWord x ∨ OutsideWord x := by
  unfold decodeElmWord at h
  split at h
  case isTrue h62 =>
    obtain h2 | h3 := of_decodeMove_error h
    · exact .inr (.inr (.inr (.inl ⟨hm, h62, h2⟩)))
    · exact .inl (by simp [ReservedWord, hm, h62, h3])
  case isFalse h62 =>
    left
    split at h
    case h_1 hnone =>
      have hlt : field x 21 16 < 64 := field_lt x 21 16
      have hres := of_dfnOf_eq_none hnone
      simp [ReservedWord, hm]
      omega
    case h_2 hdfn =>
      obtain h6 | ⟨h3, rfl⟩ := of_decodeElm_error h
      · simp [ReservedWord, hm, h62, h6]
      · simp [ReservedWord, hm, h3, of_dfnOf_d hdfn]

theorem rejected_of_decodeVecWord_error (hm : field x 5 0 = 30) (h : decodeVecWord x = .error why) :
    ReservedWord x ∨ OutsideWord x := by
  have hlt := field_lt x 25 21
  unfold decodeVecWord at h
  split_ifs at h with h24 h25
  · exact .inl (by simp [ReservedWord, hm, h24, of_decode2R_error h])
  · exact .inr (.inr (.inr (.inr (.inl ⟨hm, h25⟩))))
  · have h7 := of_decodeVec_error h
    exact .inl (by simp [ReservedWord, hm]; omega)

theorem reservedWord_of_decodeI5_error (hm : field x 5 0 = 6 ∨ field x 5 0 = 7) {i5 i10 : Nat}
    (h : decodeI5 (field x 5 0) (field x 25 23) df i5 i10 wd ws = .error why) : ReservedWord x := by
  obtain ⟨hm, hop⟩ | ⟨hm, hop⟩ := of_decodeI5_error (field_lt x 25 23) hm h <;> simp [ReservedWord, hm, hop]

theorem reservedWord_of_decode3R_error (hm : 13 ≤ field x 5 0 ∧ field x 5 0 ≤ 21)
    (h : decode3R (field x 5 0) (field x 25 23) (fmtOf (field x 22 21)) wd ws wt = .error why) :
    ReservedWord x := by
  have hbyte := fmtOf_eq_b (field_lt x 22 21)
  obtain ⟨hm, hop⟩ | ⟨hm, hop⟩ | ⟨hm, hop⟩ | ⟨hm, hop⟩ | ⟨hm, hop⟩ | ⟨hm, hdf⟩ | ⟨hm, hop, hdf⟩ :=
    of_decode3R_error (field_lt x 25 23) hm h
  · simp [ReservedWord, hm, hop]
  · simp [ReservedWord, hm, hop]
  · simp [ReservedWord, hm, hop]
  · simp [ReservedWord, hm, hop]
  · simp [ReservedWord, hm, hop]
  · simp [ReservedWord, hm, hbyte hdf]
  · simp [ReservedWord, hm, hop, hbyte hdf]

theorem rejected_of_decodeMinor_error (h : decodeMinor x = .error why) : ReservedWord x ∨ OutsideWord x := by
  unfold decodeMinor at h
  split at h
  case h_1 hm | h_2 hm | h_3 hm =>
    obtain ⟨hm', hop⟩ := of_decodeI8_error (field_lt x 25 24) (by omega) h
    exact .inl (by simp [ReservedWord, hm', hop])
  case h_4 hm | h_5 hm => exact .inl (reservedWord_of_decodeI5_error (by omega) h)
  case h_6 hm | h_7 hm => exact .inl (reservedWord_of_decodeBitWord_error (by omega) h)
  case h_8 hm | h_9 hm | h_10 hm | h_11 hm | h_12 hm | h_13 hm | h_14 hm | h_15 hm | h_16 hm =>
    exact .inl (reservedWord_of_decode3R_error (by omega) h)
  case h_17 hm => exact rejected_of_decodeElmWord_error hm h
  case h_20 hm =>
    obtain hres | hout := of_decode3RF_error (field_lt x 25 22) h
    · exact .inl (by simp [ReservedWord, hm, hres])
    · exact .inr (.inr (.inr (.inr (.inr ⟨hm, hout⟩))))
  case h_21 hm => exact rejected_of_decodeVecWord_error hm h
  case h_30 =>
    have hlt : field x 5 0 < 64 := field_lt x 5 0
    refine .inl ?_
    simp_all [ReservedWord]
    omega
  case h_18 hm | h_19 hm | h_22 hm | h_23 hm | h_24 hm | h_25 hm | h_26 hm | h_27 hm | h_28 hm | h_29 hm =>
    exact .inr (by simp [OutsideWord, hm])

end Rejected

theorem decode_of_msa {w : Word32} (hmajor : field w.toNat 31 26 = 30) : decode w = decodeMinor w.toNat := by
  rw [decode, if_pos hmajor]

theorem step_of_word_error {s : State} {w : Word32} {g : Scalar} {rest : List Event} {why : Reject}
    (hin : s.input = .word w g :: rest) (h : decode w = .error why) : step s = .refused (.reservedWord why) := by
  rw [step, hin]
  simp only [handle, issueWord, h]

/-- Settles O4. -/
theorem reservedWordsRefused : Obligations.ReservedWordsRefused := by
  unfold Obligations.ReservedWordsRefused
  intro s w g rest hin
  refine ⟨fun hmajor => ?_, fun hmajor hout => ?_, fun hmajor hres => ?_⟩
  · exact step_of_word_error hin (if_neg hmajor)
  · exact step_of_word_error hin ((decode_of_msa hmajor).trans (decodeMinor_of_outsideWord hout))
  · have hdec := decode_of_msa hmajor
    have hreserved := isReserved_of_reservedWord hres
    generalize decodeMinor w.toNat = r at hdec hreserved
    cases hreserved with
    | minor => exact .inl (step_of_word_error hin hdec)
    | operation => exact .inr (.inl (step_of_word_error hin hdec))
    | format => exact .inr (.inr (step_of_word_error hin hdec))

/-- Settles O5: the decoder rejects an MSA word for nothing but a reserved field or an instruction outside the block. -/
theorem inScopeWordsDecode : Obligations.InScopeWordsDecode := by
  unfold Obligations.InScopeWordsDecode
  intro w hmajor hres hout
  rw [decode_of_msa hmajor]
  cases h : decodeMinor w.toNat with
  | ok i => exact ⟨i, rfl⟩
  | error why => exact absurd (rejected_of_decodeMinor_error h) (not_or.mpr ⟨hres, hout⟩)

end Sys2Proof
end

section
/-! The rows of 41_add_sub_avg: the word of a row decodes to its instruction, and the kernel of its meaning is the
rule's value. Where the rule is stated in another form than the kernel computes, a lemma about exact integers says that
the two agree. -/

namespace Sys2Proof.Machine

/-! ## Readings and truncation -/

/-- A store keeps the residue of the exact result, and nothing more (00_scope R15). -/
theorem trunc_eq_of_modEq {df : Fmt} {v w : Int} (h : v ≡ w [ZMOD 2 ^ laneBits df]) : trunc df v = trunc df w := by
  have hz : zext (trunc df v) = zext (trunc df w) := by rw [zext_trunc_eq_emod, zext_trunc_eq_emod]; exact h
  rw [← trunc_zext df (trunc df v), hz, trunc_zext]

theorem minInt_le_sext {df : Fmt} (a : Lane df) : minInt (laneBits df) ≤ sext a := (sext_bounds df a).1

theorem sext_le_maxInt {df : Fmt} (a : Lane df) : sext a ≤ maxInt (laneBits df) :=
  Int.le_sub_one_of_lt (sext_bounds df a).2

/-! ## Sums and averages of exact integers -/

/-- R175's form of the signed sum never leaves the lane's range before it is known to fit. -/
theorem clamp_add_eq {a b lo hi : Int} (hb : lo ≤ b ∧ b ≤ hi) :
    clamp (a + b) lo hi =
      if a < 0 then (if lo - a < b then a + b else lo) else (if b < hi - a then a + b else hi) := by
  rw [clamp]
  split_ifs <;> omega

section Averages

variable {n : Nat} {a b : BitVec n} {x y : Int}

/-- Halving each operand and adding back the bit both lost is the floor of the average. -/
theorem shr_add_shr_add_bitAt_and (hx : x % 2 = a.toNat % 2) (hy : y % 2 = b.toNat % 2) :
    shr x 1 + shr y 1 + bitAt (a &&& b) 0 = (x + y) / 2 := by
  rw [bitAt_and_zero, shr, shr]; omega

/-- Halving each operand and adding back the bit either lost is the average rounded up at halves. -/
theorem shr_add_shr_add_bitAt_or (hx : x % 2 = a.toNat % 2) (hy : y % 2 = b.toNat % 2) :
    shr x 1 + shr y 1 + bitAt (a ||| b) 0 = (x + y + 1) / 2 := by
  rw [bitAt_or_zero, shr, shr]; omega

end Averages

theorem zext_mod_two {n : Nat} (a : BitVec n) : zext a % 2 = a.toNat % 2 := rfl

/-! ## The absolute difference -/

theorem mag_sub_eq (x y : Int) : mag (x - y) = if x < y then y - x else x - y := by
  rw [mag]; split_ifs <;> omega

/-- An absolute difference of two lanes fits in a lane read unsigned. -/
theorem zext_trunc_mag_sub {df : Fmt} {x y lo : Int} (hx : lo ≤ x ∧ x < lo + 2 ^ laneBits df)
    (hy : lo ≤ y ∧ y < lo + 2 ^ laneBits df) : zext (trunc df (mag (x - y))) = mag (x - y) := by
  refine zext_trunc df (Int.natCast_nonneg _) ?_
  rw [mag_sub_eq]; split_ifs <;> omega

theorem sext_lt_add_two_pow {df : Fmt} (a : Lane df) :
    -2 ^ (laneBits df - 1) ≤ sext a ∧ sext a < -2 ^ (laneBits df - 1) + 2 ^ laneBits df := by
  have := sext_bounds df a
  have := two_pow_laneBits df
  omega

theorem zext_lt_add_two_pow {n : Nat} (a : BitVec n) : 0 ≤ zext a ∧ zext a < 0 + 2 ^ n := by
  rw [Int.zero_add]; exact zext_bounds a

/-! ## The rows -/

/-- Settles O8. -/
theorem modularAddSub : Obligations.ModularAddSub := by
  unfold Obligations.ModularAddSub
  refine ⟨fun df a b => trunc_eq_of_modEq ((sext_modEq_zext a).add (sext_modEq_zext b)), ?_⟩
  intro s df wd ws wt u5
  exact ⟨rowLanes_addv s df wd ws wt, rowLanes_subv s df wd ws wt, fun hu =>
    ⟨rowLanes_addvi s df wd ws hu, rowLanes_subvi s df wd ws hu⟩⟩

/-- Settles O9. -/
theorem saturatingAddSub : Obligations.SaturatingAddSub := by
  unfold Obligations.SaturatingAddSub
  refine ⟨fun df x y => clamp_add_eq ⟨minInt_le_sext y, sext_le_maxInt y⟩, ?_⟩
  intro s df wd ws wt
  refine ⟨?addsS, ?addsU, ?subsS, ?subsU⟩
  case addsS => exact rowLanes_of_lanewise3 (decode_addsS df wd ws wt) (exec_addsS df wd ws wt s) fun _ _ => rfl
  case addsU => exact rowLanes_of_lanewise3 (decode_addsU df wd ws wt) (exec_addsU df wd ws wt s) fun _ _ => rfl
  case subsS => exact rowLanes_of_lanewise3 (decode_subsS df wd ws wt) (exec_subsS df wd ws wt s) fun _ _ => rfl
  case subsU => exact rowLanes_of_lanewise3 (decode_subsU df wd ws wt) (exec_subsU df wd ws wt s) fun _ _ => rfl

/-- Settles O10. -/
theorem absoluteDifferenceAndUnsignedAverage : Obligations.AbsoluteDifferenceAndUnsignedAverage := by
  unfold Obligations.AbsoluteDifferenceAndUnsignedAverage
  constructor
  · intro s df wd ws wt
    refine ⟨?asubS, ?asubU, ?aveU, ?averU⟩
    case asubS => exact rowLanes_of_lanewise3 (decode_asubS df wd ws wt) (exec_asubS df wd ws wt s) fun _ _ => rfl
    case asubU => exact rowLanes_of_lanewise3 (decode_asubU df wd ws wt) (exec_asubU df wd ws wt s) fun _ _ => rfl
    case aveU =>
      exact rowLanes_of_lanewise3 (decode_aveU df wd ws wt) (exec_aveU df wd ws wt s) fun _ _ =>
        congrArg (trunc df) (shr_add_shr_add_bitAt_and (zext_mod_two _) (zext_mod_two _))
    case averU =>
      exact rowLanes_of_lanewise3 (decode_averU df wd ws wt) (exec_averU df wd ws wt s) fun _ _ =>
        congrArg (trunc df) (shr_add_shr_add_bitAt_or (zext_mod_two _) (zext_mod_two _))
  · intro df a b
    exact ⟨mag_sub_eq _ _, zext_trunc_mag_sub (sext_lt_add_two_pow a) (sext_lt_add_two_pow b),
      zext_trunc_mag_sub (zext_lt_add_two_pow a) (zext_lt_add_two_pow b),
      shr_add_shr_add_bitAt_and (zext_mod_two a) (zext_mod_two b),
      shr_add_shr_add_bitAt_or (zext_mod_two a) (zext_mod_two b)⟩

/-- Settles O11. -/
theorem crossSaturatingSubtract : Obligations.CrossSaturatingSubtract := by
  unfold Obligations.CrossSaturatingSubtract
  intro s df wd ws wt
  exact ⟨rowLanes_of_lanewise3 (decode_subsusU df wd ws wt) (exec_subsusU df wd ws wt s) fun _ _ => rfl,
    rowLanes_of_lanewise3 (decode_subsuuS df wd ws wt) (exec_subsuuS df wd ws wt s) fun _ _ => rfl⟩

/-- Settles O12. -/
theorem magnitudeAddAndSignedAverage : Obligations.MagnitudeAddAndSignedAverage := by
  unfold Obligations.MagnitudeAddAndSignedAverage
  intro s df wd ws wt
  refine ⟨rowLanes_addA s df wd ws wt, ?addsA, ?aveS, ?averS⟩
  case addsA => exact rowLanes_of_lanewise3 (decode_addsA df wd ws wt) (exec_addsA df wd ws wt s) fun _ _ => rfl
  case aveS =>
    exact rowLanes_of_lanewise3 (decode_aveS df wd ws wt) (exec_aveS df wd ws wt s) fun _ _ =>
      congrArg (trunc df) (shr_add_shr_add_bitAt_and (sext_mod_two df _) (sext_mod_two df _))
  case averS =>
    exact rowLanes_of_lanewise3 (decode_averS df wd ws wt) (exec_averS df wd ws wt s) fun _ _ =>
      congrArg (trunc df) (shr_add_shr_add_bitAt_or (sext_mod_two df _) (sext_mod_two df _))

end Sys2Proof.Machine
end

section
/-! The rows of 42_minmax_compare: minimum, maximum, and the compares, whose mask lane has every bit at the truth value
of the predicate (R211). -/

namespace Sys2Proof.Machine

theorem tie_eq (t : MagTie) (a b : Int) : tie t a b = if t = .first then a else b := by cases t <;> rfl

theorem sext_inj {n : Nat} {a b : BitVec n} : sext a = sext b ↔ a = b := BitVec.toInt_inj

theorem zext_inj {n : Nat} {a b : BitVec n} : zext a = zext b ↔ a = b := Int.ofNat_inj.trans BitVec.toNat_inj

section Rows

variable {w : Word32} {i : Instr} {s : State} {wd ws wt : Reg} {df : Fmt}

/-- A register form that masks a predicate leaves in every bit of the lane the predicate's truth value. -/
theorem rowBits_of_mask3 {p : Lane df → Lane df → Bool} {f : Nat → Bool} (hd : decode w = .ok i)
    (he : exec i s = lanewise3 df wd ws wt (fun _ a b => mask (p a b)) s)
    (hf : ∀ k, p (loadLane s ws df k) (loadLane s wt df k) = f k) : RowBits w i s wd df fun k _ => f k :=
  rowBits_of_lanewise3 hd he fun k _ _ hb => (getLsbD_trunc_mask df _ hb).trans (hf k)

/-- The same for an immediate form, whose immediate is in range. -/
theorem rowBits_of_mask2 {p : Lane df → Bool} {r : Bool} (hr : r = true) (hd : decode w = .ok i)
    (he : exec i s = withImmediate r (lanewise2 df wd ws (fun _ a => mask (p a)) s)) :
    RowBits w i s wd df fun k _ => p (loadLane s ws df k) :=
  rowBits_of_lanewise2 hd (he.trans (withImmediate_of_true hr _)) fun _ _ _ hb => getLsbD_trunc_mask df _ hb

/-- A row of an immediate form, whose immediate is in range and whose kernel is the rule's value. -/
theorem rowLanes_of_immediate {k : Lane df → Lane df → Int} {r : Bool} (hr : r = true) (hd : decode w = .ok i)
    (he : exec i s = withImmediate r (lanewise2 df wd ws k s)) :
    RowLanes w i s wd df fun j => k (loadLane s wd df j) (loadLane s ws df j) :=
  rowLanes_of_lanewise2 hd (he.trans (withImmediate_of_true hr _)) fun _ _ => rfl

end Rows

theorem s5Ok_of_bounds {s5 : Int} (h1 : -16 ≤ s5) (h2 : s5 ≤ 15) : s5Ok s5 = true := by simp [s5Ok, h1, h2]

theorem u5Ok_of_le {u5 : Nat} (h : u5 ≤ 31) : u5Ok u5 = true := decide_eq_true h

/-- Settles O14. -/
theorem magnitudeMaxMin : Obligations.MagnitudeMaxMin := by
  unfold Obligations.MagnitudeMaxMin
  intro s df wd ws wt
  constructor
  · exact rowLanes_of_lanewise3 (decode_maxA df wd ws wt) (exec_maxA df wd ws wt s) fun _ _ => by
      rw [maxMag, tie_eq]; rfl
  · exact rowLanes_of_lanewise3 (decode_minA df wd ws wt) (exec_minA df wd ws wt s) fun _ _ => by
      rw [minMag, tie_eq]; rfl

/-- Settles O15. -/
theorem maxMinRegisterForms : Obligations.MaxMinRegisterForms := by
  unfold Obligations.MaxMinRegisterForms
  intro s df wd ws wt
  refine ⟨?maxS, ?maxU, ?minS, ?minU⟩
  case maxS => exact rowLanes_of_lanewise3 (decode_maxS df wd ws wt) (exec_maxS df wd ws wt s) fun _ _ => rfl
  case maxU => exact rowLanes_of_lanewise3 (decode_maxU df wd ws wt) (exec_maxU df wd ws wt s) fun _ _ => rfl
  case minS => exact rowLanes_of_lanewise3 (decode_minS df wd ws wt) (exec_minS df wd ws wt s) fun _ _ => rfl
  case minU => exact rowLanes_of_lanewise3 (decode_minU df wd ws wt) (exec_minU df wd ws wt s) fun _ _ => rfl

/-- Settles O16. -/
theorem compareRegisterForms : Obligations.CompareRegisterForms := by
  unfold Obligations.CompareRegisterForms
  refine ⟨fun df a b => ⟨sext_inj, zext_inj⟩, ?_⟩
  intro s df wd ws wt
  refine ⟨?ceq, ?cltS, ?cltU, ?cleS, ?cleU⟩
  case ceq =>
    exact rowBits_of_mask3 (decode_ceq df wd ws wt) (exec_ceq df wd ws wt s) fun _ => decide_eq_decide.mpr sext_inj
  case cltS => exact rowBits_of_mask3 (decode_cltS df wd ws wt) (exec_cltS df wd ws wt s) fun _ => rfl
  case cltU => exact rowBits_of_mask3 (decode_cltU df wd ws wt) (exec_cltU df wd ws wt s) fun _ => rfl
  case cleS => exact rowBits_of_mask3 (decode_cleS df wd ws wt) (exec_cleS df wd ws wt s) fun _ => rfl
  case cleU => exact rowBits_of_mask3 (decode_cleU df wd ws wt) (exec_cleU df wd ws wt s) fun _ => rfl

/-- Settles O17. -/
theorem immediateMaxMinCompare : Obligations.ImmediateMaxMinCompare := by
  unfold Obligations.ImmediateMaxMinCompare
  intro s df wd ws s5 u5 h1 h2 h3
  have hs := s5Ok_of_bounds h1 h2
  have hu := u5Ok_of_le h3
  refine ⟨?maxiS, ?maxiU, ?miniS, ?miniU, ?ceqi, ?cltiS, ?cltiU, ?cleiS, ?cleiU⟩
  case maxiS => exact rowLanes_of_immediate hs (decode_maxiS df wd ws s5 h1 h2) (exec_maxiS df wd ws s5 s)
  case maxiU => exact rowLanes_of_immediate hu (decode_maxiU df wd ws u5 h3) (exec_maxiU df wd ws u5 s)
  case miniS => exact rowLanes_of_immediate hs (decode_miniS df wd ws s5 h1 h2) (exec_miniS df wd ws s5 s)
  case miniU => exact rowLanes_of_immediate hu (decode_miniU df wd ws u5 h3) (exec_miniU df wd ws u5 s)
  case ceqi => exact rowBits_of_mask2 hs (decode_ceqi df wd ws s5 h1 h2) (exec_ceqi df wd ws s5 s)
  case cltiS => exact rowBits_of_mask2 hs (decode_cltiS df wd ws s5 h1 h2) (exec_cltiS df wd ws s5 s)
  case cltiU => exact rowBits_of_mask2 hu (decode_cltiU df wd ws u5 h3) (exec_cltiU df wd ws u5 s)
  case cleiS => exact rowBits_of_mask2 hs (decode_cleiS df wd ws s5 h1 h2) (exec_cleiS df wd ws s5 s)
  case cleiU => exact rowBits_of_mask2 hu (decode_cleiU df wd ws u5 h3) (exec_cleiU df wd ws u5 s)

end Sys2Proof.Machine
end

section
/-! The rows of 43_mul_div_dot and 44_fixed_point, and the division identity on the lanes that `div_s` and `mod_s`
leave. -/

namespace Sys2Proof.Machine

/-- Settles O18. -/
theorem horizontalAddSub : Obligations.HorizontalAddSub := by
  unfold Obligations.HorizontalAddSub
  intro s f wd ws wt
  refine ⟨?haddS, ?haddU, ?hsubS, ?hsubU⟩
  case haddS => exact rowLanes_of_lanewise3 (decode_haddS f wd ws wt) (exec_haddS f wd ws wt s) fun _ _ => rfl
  case haddU => exact rowLanes_of_lanewise3 (decode_haddU f wd ws wt) (exec_haddU f wd ws wt s) fun _ _ => rfl
  case hsubS => exact rowLanes_of_lanewise3 (decode_hsubS f wd ws wt) (exec_hsubS f wd ws wt s) fun _ _ => rfl
  case hsubU => exact rowLanes_of_lanewise3 (decode_hsubU f wd ws wt) (exec_hsubU f wd ws wt s) fun _ _ => rfl

/-- Settles O19. -/
theorem dotProducts : Obligations.DotProducts := by
  unfold Obligations.DotProducts
  refine ⟨fun df d v => trunc_eq_of_modEq ((sext_modEq_zext d).add_right v), ?_⟩
  intro s f wd ws wt
  refine ⟨?dotpS, ?dotpU, ?dpaddS, ?dpaddU, ?dpsubS, ?dpsubU⟩
  case dotpS => exact rowLanes_of_lanewise3 (decode_dotpS f wd ws wt) (exec_dotpS f wd ws wt s) fun _ _ => rfl
  case dotpU => exact rowLanes_of_lanewise3 (decode_dotpU f wd ws wt) (exec_dotpU f wd ws wt s) fun _ _ => rfl
  case dpaddS => exact rowLanes_of_lanewise3 (decode_dpaddS f wd ws wt) (exec_dpaddS f wd ws wt s) fun _ _ => rfl
  case dpaddU => exact rowLanes_of_lanewise3 (decode_dpaddU f wd ws wt) (exec_dpaddU f wd ws wt s) fun _ _ => rfl
  case dpsubS => exact rowLanes_of_lanewise3 (decode_dpsubS f wd ws wt) (exec_dpsubS f wd ws wt s) fun _ _ => rfl
  case dpsubU => exact rowLanes_of_lanewise3 (decode_dpsubU f wd ws wt) (exec_dpsubU f wd ws wt s) fun _ _ => rfl

/-- Settles O20. -/
theorem multiplyAccumulate : Obligations.MultiplyAccumulate := by
  unfold Obligations.MultiplyAccumulate
  refine ⟨fun df a b => trunc_eq_of_modEq ((sext_modEq_zext a).mul (sext_modEq_zext b)), ?_⟩
  intro s df wd ws wt
  refine ⟨?mulv, ?maddv, ?msubv⟩
  case mulv => exact rowLanes_of_lanewise3 (decode_mulv df wd ws wt) (exec_mulv df wd ws wt s) fun _ _ => rfl
  case maddv => exact rowLanes_of_lanewise3 (decode_maddv df wd ws wt) (exec_maddv df wd ws wt s) fun _ _ => rfl
  case msubv => exact rowLanes_of_lanewise3 (decode_msubv df wd ws wt) (exec_msubv df wd ws wt s) fun _ _ => rfl

/-! ## Division -/

/-- Settles O21. -/
theorem unsignedDivideModulo : Obligations.UnsignedDivideModulo := by
  unfold Obligations.UnsignedDivideModulo
  intro s df wd ws wt
  exact ⟨rowLanes_of_lanewise3 (decode_divU df wd ws wt) (exec_divU df wd ws wt s) fun _ _ => rfl,
    rowLanes_of_lanewise3 (decode_modU df wd ws wt) (exec_modU df wd ws wt s) fun _ _ => rfl⟩

theorem rowLanes_divS (s : State) (df : Fmt) (wd ws wt : Reg) :
    RowLanes (word3R 18 4 df wd ws wt) (Instr.divS df wd ws wt) s wd df
      fun k => divS (laneBits df) (loadS s ws df k) (loadS s wt df k) :=
  rowLanes_of_lanewise3 (decode_divS df wd ws wt) (exec_divS df wd ws wt s) fun _ _ => rfl

theorem rowLanes_modS (s : State) (df : Fmt) (wd ws wt : Reg) :
    RowLanes (word3R 18 6 df wd ws wt) (Instr.modS df wd ws wt) s wd df
      fun k => modS (laneBits df) (loadS s ws df k) (loadS s wt df k) :=
  rowLanes_of_lanewise3 (decode_modS df wd ws wt) (exec_modS df wd ws wt s) fun _ _ => rfl

/-- Settles O22: the remainder of R248 is the one that truncating division leaves. -/
theorem signedDivideModulo : Obligations.SignedDivideModulo := by
  unfold Obligations.SignedDivideModulo
  intro s df wd ws wt
  refine ⟨rowLanes_divS s df wd ws wt, ?_⟩
  simpa only [modS_eq_tmod] using rowLanes_modS s df wd ws wt

/-- A lane that a row left reads signed as the value the row stores, when the lane's signed range holds that value. -/
theorem loadS_of_rowLanes {w : Word32} {i : Instr} {s t : State} {wd : Reg} {df : Fmt} {f : Nat → Int}
    (h : RowLanes w i s wd df f) (hx : exec i s = .next t) {k : Nat} (hk : k < laneCount df)
    (hlo : -2 ^ (laneBits df - 1) ≤ f k) (hhi : f k < 2 ^ (laneBits df - 1)) : loadS t wd df k = f k := by
  obtain ⟨-, V, hV, hlane⟩ := h
  obtain rfl : commit s wd V = t := Host.Outcome.next.inj (hV.symm.trans hx)
  rw [loadS, loadLane_of_lt _ _ hk, commit_rd_same, hlane k hk, sext_trunc df hlo hhi]

/-- The truncating quotient stays in the signed range, but for the one pair whose quotient is `2^(N-1)`. -/
theorem tdiv_bounds {a b p : Int} (ha : -p ≤ a ∧ a < p) (hne : ¬ (a = -p ∧ b = -1)) :
    -p ≤ a.tdiv b ∧ a.tdiv b < p := by
  have habs : (a.tdiv b).natAbs = a.natAbs / b.natAbs := Int.natAbs_tdiv a b
  obtain rfl | rfl | rfl | hb : b = 0 ∨ b = 1 ∨ b = -1 ∨ 2 ≤ b.natAbs := by omega
  · rw [Int.tdiv_zero]; omega
  · rw [Int.tdiv_one]; exact ha
  · rw [Int.tdiv_neg, Int.tdiv_one]; omega
  · have hhalf : a.natAbs / b.natAbs ≤ a.natAbs / 2 := Nat.div_le_div_left hb (by decide)
    omega

/-- The truncating remainder is smaller than the divisor and is 0 or has the dividend's sign. -/
theorem tmod_sign (a b : Int) : a.tmod b = 0 ∨ (0 < a.tmod b ∧ 0 < a) ∨ (a.tmod b < 0 ∧ a < 0) := by
  rcases Int.le_total 0 a with h | h
  · have := Int.tmod_nonneg b h
    by_cases ha : a = 0
    · exact .inl (by rw [ha, Int.zero_tmod])
    · omega
  · have := Int.tmod_nonneg b (Int.neg_nonneg.mpr h)
    rw [Int.neg_tmod] at this
    by_cases ha : a = 0
    · exact .inl (by rw [ha, Int.zero_tmod])
    · omega

theorem natAbs_tmod_lt (a : Int) {b : Int} (hb : b ≠ 0) : (a.tmod b).natAbs < b.natAbs := by
  rw [Int.natAbs_tmod]
  exact Nat.mod_lt _ (Int.natAbs_pos.mpr hb)

/-- Settles O23: neither the quotient nor the remainder loses anything in its lane, so the identity of truncating
division holds of the lanes. -/
theorem divisionIdentity : Obligations.DivisionIdentity := by
  unfold Obligations.DivisionIdentity
  intro s t u df q r ws wt k hk hdiv hmod hb hne
  have ha := sext_bounds df (loadLane s ws df k)
  have hbb := sext_bounds df (loadLane s wt df k)
  have hlt := natAbs_tmod_lt (loadS s ws df k) hb
  have hquot : divS (laneBits df) (loadS s ws df k) (loadS s wt df k) = (loadS s ws df k).tdiv (loadS s wt df k) := by
    rw [divS, if_neg hne, if_neg hb]
  have hrem : modS (laneBits df) (loadS s ws df k) (loadS s wt df k) = (loadS s ws df k).tmod (loadS s wt df k) := by
    rw [modS_eq_tmod, if_neg hne, if_neg hb]
  have hq : loadS t q df k = (loadS s ws df k).tdiv (loadS s wt df k) := by
    obtain ⟨hlo, hhi⟩ := tdiv_bounds ha hne
    exact (loadS_of_rowLanes (rowLanes_divS s df q ws wt) hdiv hk (hquot ▸ hlo) (hquot ▸ hhi)).trans hquot
  have hr : loadS u r df k = (loadS s ws df k).tmod (loadS s wt df k) := by
    have hrange : -2 ^ (laneBits df - 1) ≤ (loadS s ws df k).tmod (loadS s wt df k) ∧
        (loadS s ws df k).tmod (loadS s wt df k) < 2 ^ (laneBits df - 1) := by
      change -2 ^ (laneBits df - 1) ≤ loadS s wt df k ∧ loadS s wt df k < 2 ^ (laneBits df - 1) at hbb
      omega
    exact (loadS_of_rowLanes (rowLanes_modS s df r ws wt) hmod hk (hrem ▸ hrange.1) (hrem ▸ hrange.2)).trans hrem
  rw [hq, hr]
  exact ⟨(Int.mul_tdiv_add_tmod _ _).symm, Int.ofNat_lt.mpr hlt, tmod_sign _ _⟩

/-! ## Fixed point -/

/-- Settles O24. -/
theorem fixedPointMultiply : Obligations.FixedPointMultiply := by
  unfold Obligations.FixedPointMultiply
  intro s f wd ws wt
  refine ⟨?mulQ, ?mulrQ, ?maddQ, ?maddrQ, ?msubQ, ?msubrQ⟩
  case mulQ =>
    exact rowLanes_of_lanewise3 (decode_mulQ f wd ws wt) (exec_mulQ f wd ws wt s) fun _ _ => by
      rw [mulQ, Int.add_zero]; rfl
  case mulrQ => exact rowLanes_of_lanewise3 (decode_mulrQ f wd ws wt) (exec_mulrQ f wd ws wt s) fun _ _ => rfl
  case maddQ => exact rowLanes_of_lanewise3 (decode_maddQ f wd ws wt) (exec_maddQ f wd ws wt s) fun _ _ => rfl
  case maddrQ =>
    exact rowLanes_of_lanewise3 (decode_maddrQ f wd ws wt) (exec_maddrQ f wd ws wt s) fun _ _ => by
      rw [accQ, ← Int.add_assoc]; rfl
  case msubQ =>
    exact rowLanes_of_lanewise3 (decode_msubQ f wd ws wt) (exec_msubQ f wd ws wt s) fun _ _ => by
      rw [accQ, ← Int.sub_eq_add_neg]; rfl
  case msubrQ =>
    exact rowLanes_of_lanewise3 (decode_msubrQ f wd ws wt) (exec_msubrQ f wd ws wt s) fun _ _ => by
      rw [accQ, ← Int.add_assoc, ← Int.sub_eq_add_neg]; rfl

end Sys2Proof.Machine
end

section
/-! The rows of 45_bit_ops and 46_shift, bit by bit where the rules are. -/

namespace Sys2Proof.Machine

theorem mOk_of_lt {df : Fmt} {m : Nat} (h : m < laneBits df) : mOk df m = true := decide_eq_true h

theorem i8Ok_of_le {i8 : Nat} (h : i8 ≤ 255) : i8Ok i8 = true := decide_eq_true h

section Rows

variable {w : Word32} {i : Instr} {s : State} {wd ws wt : Reg} {df : Fmt}

/-- A register form that stores a pattern leaves that pattern's bits. -/
theorem rowBits_of_pattern3 {p : Lane df → Lane df → Lane df → Lane df} {f : Nat → Nat → Bool}
    (hd : decode w = .ok i) (he : exec i s = lanewise3 df wd ws wt (fun d a b => zext (p d a b)) s)
    (hf : ∀ k b, b < laneBits df →
      (p (loadLane s wd df k) (loadLane s ws df k) (loadLane s wt df k)).getLsbD b = f k b) :
    RowBits w i s wd df f :=
  rowBits_of_lanewise3 hd he fun k b _ hb => by rw [trunc_zext]; exact hf k b hb

/-- The same for an immediate form, whose immediate is in range. -/
theorem rowBits_of_pattern2 {p : Lane df → Lane df → Lane df} {f : Nat → Nat → Bool} {r : Bool} (hr : r = true)
    (hd : decode w = .ok i) (he : exec i s = withImmediate r (lanewise2 df wd ws (fun d a => zext (p d a)) s))
    (hf : ∀ k b, b < laneBits df → (p (loadLane s wd df k) (loadLane s ws df k)).getLsbD b = f k b) :
    RowBits w i s wd df f :=
  rowBits_of_lanewise2 hd (he.trans (withImmediate_of_true hr _)) fun k b _ hb => by
    rw [trunc_zext]; exact hf k b hb

end Rows

/-! ## Bit clear, set, negate, insert -/

/-- Settles O25. -/
theorem bitRegisterForms : Obligations.BitRegisterForms := by
  unfold Obligations.BitRegisterForms
  intro s df wd ws wt
  refine ⟨?bclr, ?bset, ?bneg⟩
  case bclr =>
    exact rowBits_of_pattern3 (decode_bclr df wd ws wt) (exec_bclr df wd ws wt s) fun _ _ => getLsbD_clearBit _ _
  case bset =>
    exact rowBits_of_pattern3 (decode_bset df wd ws wt) (exec_bset df wd ws wt s) fun _ _ => getLsbD_setBit _ _
  case bneg =>
    exact rowBits_of_pattern3 (decode_bneg df wd ws wt) (exec_bneg df wd ws wt s) fun _ _ => getLsbD_flipBit _ _

/-- Settles O26. -/
theorem bitImmediateForms : Obligations.BitImmediateForms := by
  unfold Obligations.BitImmediateForms
  intro s df wd ws m hm
  have hok := mOk_of_lt hm
  refine ⟨?bclri, ?bseti, ?bnegi⟩
  case bclri =>
    exact rowBits_of_pattern2 hok (decode_bclri df wd ws m hm) (exec_bclri df wd ws m s) fun _ _ =>
      getLsbD_clearBit _ _
  case bseti =>
    exact rowBits_of_pattern2 hok (decode_bseti df wd ws m hm) (exec_bseti df wd ws m s) fun _ _ =>
      getLsbD_setBit _ _
  case bnegi =>
    exact rowBits_of_pattern2 hok (decode_bnegi df wd ws m hm) (exec_bnegi df wd ws m s) fun _ _ =>
      getLsbD_flipBit _ _

/-- Settles O27. -/
theorem bitInsert : Obligations.BitInsert := by
  unfold Obligations.BitInsert
  intro s df wd ws wt m
  refine ⟨?binsl, ?binsr, fun hm => ⟨?binsli, ?binsri⟩⟩
  case binsl =>
    exact rowBits_of_pattern3 (decode_binsl df wd ws wt) (exec_binsl df wd ws wt s) fun _ _ => getLsbD_insL _ _
  case binsr =>
    exact rowBits_of_pattern3 (decode_binsr df wd ws wt) (exec_binsr df wd ws wt s) fun _ _ => getLsbD_insR _ _
  case binsli =>
    exact rowBits_of_pattern2 (mOk_of_lt hm) (decode_binsli df wd ws m hm) (exec_binsli df wd ws m s) fun _ _ =>
      getLsbD_insL _ _
  case binsri =>
    exact rowBits_of_pattern2 (mOk_of_lt hm) (decode_binsri df wd ws m hm) (exec_binsri df wd ws m s) fun _ _ =>
      getLsbD_insR _ _

/-! ## Saturate and count -/

theorem rowLanes_satS (s : State) (df : Fmt) (wd ws : Reg) {m : Nat} (hm : m < laneBits df) :
    RowLanes (wordBit 10 0 df wd ws m) (Instr.satS df wd ws m) s wd df
      fun k => clamp (loadS s ws df k) (-2 ^ m) (2 ^ m - 1) :=
  rowLanes_of_immediate (mOk_of_lt hm) (decode_satS df wd ws m hm) (exec_satS df wd ws m s)

/-- A clamp to the lane's own signed range changes nothing. -/
theorem clamp_sext {df : Fmt} (a : Lane df) :
    clamp (sext a) (-2 ^ (laneBits df - 1)) (2 ^ (laneBits df - 1) - 1) = sext a := by
  have := sext_bounds df a
  rw [clamp, if_neg (by omega), if_neg (by omega)]

/-- Settles O28. -/
theorem signedSaturate : Obligations.SignedSaturate := by
  unfold Obligations.SignedSaturate
  intro s df wd ws m hm
  have hrow := rowLanes_satS s df wd ws hm
  refine ⟨hrow, ?_⟩
  rintro rfl
  obtain ⟨-, V, hV, hlane⟩ := hrow
  have hsame : V = s.rd ws := eq_of_lanes df fun k hk =>
    calc lane V df k = trunc df (sext (loadLane s ws df k)) := (hlane k hk).trans (congrArg _ (clamp_sext _))
      _ = lane (s.rd ws) df k := by rw [trunc_sext, loadLane_of_lt s ws hk]
  rw [hV, hsame]

theorem rowLanes_of_lanewise2_kernel {w : Word32} {i : Instr} {s : State} {wd ws : Reg} {df : Fmt}
    {k : Lane df → Lane df → Int} (hd : decode w = .ok i) (he : exec i s = lanewise2 df wd ws k s) :
    RowLanes w i s wd df fun j => k (loadLane s wd df j) (loadLane s ws df j) :=
  rowLanes_of_lanewise2 hd he fun _ _ => rfl

theorem popcount_eq_length_filter {n : Nat} (x : BitVec n) :
    popcount x = ((List.range n).filter fun j => x.getLsbD j).length := List.countP_eq_length_filter

/-- The number `z` of leading bits of a lane that are all `v`: the bits of `x` above `z` are 0, and `x` has a 1
exactly where the lane has `!v`. -/
theorem leading_of_nlz {df : Fmt} {a x : Lane df} {v : Bool}
    (hx : ∀ j, j < laneBits df → x.getLsbD j = (a.getLsbD j != v)) :
    ∃ z, z ≤ laneBits df ∧ trunc df (nlz x) = BitVec.ofNat (laneBits df) z ∧
      (∀ j, laneBits df - z ≤ j → j < laneBits df → a.getLsbD j = v) ∧
      (z < laneBits df → a.getLsbD (laneBits df - 1 - z) = !v) := by
  obtain ⟨hle, hzeros, hone⟩ := leadingZerosBelow_spec x (laneBits df)
  refine ⟨nlz x, hle, rfl, fun j hj hlt => ?_, fun hz => ?_⟩
  · have h := hzeros j hj hlt
    rw [hx j hlt] at h
    simpa using h
  · have h := hone hz
    rw [hx _ (by omega)] at h
    revert h
    cases v <;> simp [nlz]

/-- Settles O29. -/
theorem unsignedSaturateAndCounts : Obligations.UnsignedSaturateAndCounts := by
  unfold Obligations.UnsignedSaturateAndCounts
  intro s df wd ws m
  refine ⟨fun hm => ?satU, ?pcnt, ?nloc, ?nlzc⟩
  case satU => exact rowLanes_of_immediate (mOk_of_lt hm) (decode_satU df wd ws m hm) (exec_satU df wd ws m s)
  case pcnt =>
    exact rowLanes_of_lanewise2 (decode_pcnt df wd ws) (exec_pcnt df wd ws s) fun _ _ => by
      rw [popcount_eq_length_filter]
  case nloc =>
    obtain ⟨hd, V, hV, hlane⟩ := rowLanes_of_lanewise2_kernel (decode_nloc df wd ws) (exec_nloc df wd ws s)
    refine ⟨hd, V, hV, fun k hk => ?_⟩
    rw [hlane k hk]
    exact leading_of_nlz fun j hj => by simp [hj]
  case nlzc =>
    obtain ⟨hd, V, hV, hlane⟩ := rowLanes_of_lanewise2_kernel (decode_nlzc df wd ws) (exec_nlzc df wd ws s)
    refine ⟨hd, V, hV, fun k hk => ?_⟩
    rw [hlane k hk]
    exact leading_of_nlz fun j hj => by simp

/-! ## Logic, bit move and bit select -/

section Bits

variable {n j : Nat} (x y c : BitVec n)

theorem getLsbD_or_and_andNot (hj : j < n) :
    ((x &&& c) ||| (y &&& ~~~c)).getLsbD j = if c.getLsbD j then x.getLsbD j else y.getLsbD j := by
  simp only [BitVec.getLsbD_or, BitVec.getLsbD_and, BitVec.getLsbD_not, hj, decide_true, Bool.true_and]
  cases c.getLsbD j <;> simp

theorem getLsbD_or_andNot_and (hj : j < n) :
    ((x &&& ~~~c) ||| (y &&& c)).getLsbD j = if c.getLsbD j then y.getLsbD j else x.getLsbD j := by
  rw [BitVec.or_comm]; exact getLsbD_or_and_andNot y x c hj

theorem getLsbD_nor (hj : j < n) : (~~~(x ||| y)).getLsbD j = !(x.getLsbD j || y.getLsbD j) := by
  rw [BitVec.getLsbD_not, BitVec.getLsbD_or, decide_eq_true hj, Bool.true_and]

end Bits

/-- Settles O30. -/
theorem wholeRegisterLogic : Obligations.WholeRegisterLogic := by
  unfold Obligations.WholeRegisterLogic
  intro σ wd ws wt
  refine ⟨?and, ?or, ?nor, ?xor, ?bmnz, ?bmz, ?bsel⟩
  case and => exact rowCommits_of_whole (decode_and wd ws wt) (exec_and wd ws wt σ) fun _ _ => BitVec.getLsbD_and
  case or => exact rowCommits_of_whole (decode_or wd ws wt) (exec_or wd ws wt σ) fun _ _ => BitVec.getLsbD_or
  case nor => exact rowCommits_of_whole (decode_nor wd ws wt) (exec_nor wd ws wt σ) fun _ => getLsbD_nor _ _
  case xor => exact rowCommits_of_whole (decode_xor wd ws wt) (exec_xor wd ws wt σ) fun _ _ => BitVec.getLsbD_xor
  case bmnz =>
    exact rowCommits_of_whole (decode_bmnz wd ws wt) (exec_bmnz wd ws wt σ)
      fun _ => getLsbD_or_and_andNot _ _ _
  case bmz =>
    exact rowCommits_of_whole (decode_bmz wd ws wt) (exec_bmz wd ws wt σ)
      fun _ => getLsbD_or_andNot_and _ _ _
  case bsel =>
    exact rowCommits_of_whole (decode_bsel wd ws wt) (exec_bsel wd ws wt σ)
      fun _ => getLsbD_or_andNot_and _ _ _

theorem getLsbD_i8Byte (i8 : Nat) {j : Nat} (hj : j < laneBits .b) : (i8Byte i8).getLsbD j = i8.testBit j := by
  rw [i8Byte, BitVec.getLsbD_ofNat, decide_eq_true hj, Bool.true_and]

/-- Settles O31. -/
theorem byteImmediateLogic : Obligations.ByteImmediateLogic := by
  unfold Obligations.ByteImmediateLogic
  intro σ wd ws i8 h
  have hok := i8Ok_of_le h
  refine ⟨?andi, ?ori, ?nori, ?xori, ?bmnzi, ?bmzi, ?bseli⟩
  case andi =>
    exact rowBits_of_pattern2 hok (decode_andi wd ws i8 h) (exec_andi wd ws i8 σ) fun _ _ hj => by
      rw [BitVec.getLsbD_and, getLsbD_i8Byte i8 hj]
  case ori =>
    exact rowBits_of_pattern2 hok (decode_ori wd ws i8 h) (exec_ori wd ws i8 σ) fun _ _ hj => by
      rw [BitVec.getLsbD_or, getLsbD_i8Byte i8 hj]
  case nori =>
    exact rowBits_of_pattern2 hok (decode_nori wd ws i8 h) (exec_nori wd ws i8 σ) fun _ _ hj => by
      rw [getLsbD_nor _ _ hj, getLsbD_i8Byte i8 hj]
  case xori =>
    exact rowBits_of_pattern2 hok (decode_xori wd ws i8 h) (exec_xori wd ws i8 σ) fun _ _ hj => by
      rw [BitVec.getLsbD_xor, getLsbD_i8Byte i8 hj]
  case bmnzi =>
    exact rowBits_of_pattern2 hok (decode_bmnzi wd ws i8 h) (exec_bmnzi wd ws i8 σ) fun _ _ hj => by
      rw [getLsbD_or_and_andNot _ _ _ hj, getLsbD_i8Byte i8 hj]
  case bmzi =>
    exact rowBits_of_pattern2 hok (decode_bmzi wd ws i8 h) (exec_bmzi wd ws i8 σ) fun _ _ hj => by
      rw [getLsbD_or_andNot_and _ _ _ hj, getLsbD_i8Byte i8 hj]
  case bseli =>
    exact rowBits_of_pattern2 hok (decode_bseli wd ws i8 h) (exec_bseli wd ws i8 σ) fun _ _ hj => by
      rw [getLsbD_or_andNot_and _ _ _ hj, getLsbD_i8Byte i8 hj]

/-! ## Shifts -/

/-- Settles O32. -/
theorem shifts : Obligations.Shifts := by
  unfold Obligations.Shifts
  intro s df wd ws wt m
  refine ⟨?sll, ?sra, ?srl, fun hm => ⟨?slli, ?srai, ?srli⟩⟩
  case sll => exact rowLanes_of_lanewise3 (decode_sll df wd ws wt) (exec_sll df wd ws wt s) fun _ _ => rfl
  case sra => exact rowLanes_of_lanewise3 (decode_sra df wd ws wt) (exec_sra df wd ws wt s) fun _ _ => rfl
  case srl => exact rowLanes_of_lanewise3 (decode_srl df wd ws wt) (exec_srl df wd ws wt s) fun _ _ => rfl
  case slli => exact rowLanes_of_immediate (mOk_of_lt hm) (decode_slli df wd ws m hm) (exec_slli df wd ws m s)
  case srai => exact rowLanes_of_immediate (mOk_of_lt hm) (decode_srai df wd ws m hm) (exec_srai df wd ws m s)
  case srli => exact rowLanes_of_immediate (mOk_of_lt hm) (decode_srli df wd ws m hm) (exec_srli df wd ws m s)

/-- Settles O33. -/
theorem roundedShifts : Obligations.RoundedShifts := by
  unfold Obligations.RoundedShifts
  intro s df wd ws wt m
  refine ⟨?srar, ?srlr, fun hm => ⟨?srari, ?srlri⟩⟩
  case srar => exact rowLanes_of_lanewise3 (decode_srar df wd ws wt) (exec_srar df wd ws wt s) fun _ _ => rfl
  case srlr => exact rowLanes_of_lanewise3 (decode_srlr df wd ws wt) (exec_srlr df wd ws wt s) fun _ _ => rfl
  case srari => exact rowLanes_of_immediate (mOk_of_lt hm) (decode_srari df wd ws m hm) (exec_srari df wd ws m s)
  case srlri => exact rowLanes_of_immediate (mOk_of_lt hm) (decode_srlri df wd ws m hm) (exec_srlri df wd ws m s)

end Sys2Proof.Machine
end

section
/-! The rows of 47_permute: which lane of which source each result lane is, for the staged operations whatever the
staging register held before, and what a broadcast puts into every lane. -/

namespace Sys2Proof.Machine

/-! ## Every lane of the staging register is written (40 R140) -/

/-- The lanes of a format are its even and its odd ones. -/
theorem eq_of_even_odd_lanes (df : Fmt) {V W : Vec} (h : ∀ k, k < laneCount df / 2 →
    lane V df (2 * k) = lane W df (2 * k) ∧ lane V df (2 * k + 1) = lane W df (2 * k + 1)) : V = W := by
  refine eq_of_lanes df fun k hk => ?_
  have hhalf := two_mul_half_laneCount df
  obtain ⟨heven, hodd⟩ := h (k / 2) (by omega)
  obtain hk2 | hk2 : k = 2 * (k / 2) ∨ k = 2 * (k / 2) + 1 := by omega
  · rw [hk2]; exact heven
  · rw [hk2]; exact hodd

/-- The lanes of a format are those of its lower and of its upper half. -/
theorem eq_of_half_lanes (df : Fmt) {V W : Vec} (h : ∀ k, k < laneCount df / 2 →
    lane V df k = lane W df k ∧ lane V df (laneCount df / 2 + k) = lane W df (laneCount df / 2 + k)) : V = W := by
  refine eq_of_lanes df fun k hk => ?_
  have hhalf := two_mul_half_laneCount df
  rcases Nat.lt_or_ge k (laneCount df / 2) with hlt | hge
  · exact (h k hlt).1
  · obtain ⟨q, rfl⟩ := Nat.exists_eq_add_of_le hge
    exact (h q (by omega)).2

/-- The bytes of a register are those of its groups of `n` bytes, `n` a lane count. -/
theorem eq_of_group_bytes (df : Fmt) {V W : Vec} (h : ∀ g j, g < 16 / laneCount df → j < laneCount df →
    lane V .b (laneCount df * g + j) = lane W .b (laneCount df * g + j)) : V = W := by
  refine eq_of_lanes .b fun k hk => ?_
  have hpos := laneCount_pos df
  rw [← Nat.div_add_mod k (laneCount df)]
  refine h _ _ ?_ (Nat.mod_lt _ hpos)
  rw [Nat.div_lt_iff_lt_mul hpos, Nat.mul_comm, laneCount_mul_groups]
  exact hk

theorem stage_interleave_eq (df : Fmt) (S T : Vec) (src : Nat → Nat) (X Y : Vec) :
    stage df (interleave df S T src) X = stage df (interleave df S T src) Y :=
  eq_of_even_odd_lanes df fun k hk => by
    simp only [lane_stage_interleave df S T src _ hk, and_self]

theorem stage_pack_eq (df : Fmt) (S T : Vec) (src : Nat → Nat) (X Y : Vec) :
    stage df (pack df S T src) X = stage df (pack df S T src) Y :=
  eq_of_half_lanes df fun k hk => by
    simp only [lane_stage_pack df S T src _ hk, and_self]

theorem stage_map_eq (df : Fmt) (g : Nat → Lane df) (X Y : Vec) :
    stage df ((List.range (laneCount df)).map fun i => (i, g i)) X
      = stage df ((List.range (laneCount df)).map fun i => (i, g i)) Y :=
  eq_of_lanes df fun _ hk => by rw [lane_stage_map df g X hk, lane_stage_map df g Y hk]

theorem stage_slide_eq (df : Fmt) (S D : Vec) (m : Nat) (X Y : Vec) :
    stage .b (slide df S D m) X = stage .b (slide df S D m) Y :=
  eq_of_group_bytes df fun _ _ hg hj => by
    rw [lane_stage_slide df S D m X hg hj, lane_stage_slide df S D m Y hg hj]

/-- A staged operation leaves what its writes leave over any earlier contents, once they determine every lane. -/
theorem exec_eq_commit_stage {i : Instr} {s : State} {wd : Reg} {df : Fmt} {writes : List (Nat × Lane df)} {X : Vec}
    (he : exec i s = staged df wd writes s) (hw : stage df writes 0 = stage df writes X) :
    exec i s = .next (commit s wd (stage df writes X)) := by
  rw [he, staged_eq, hw]

theorem exec_shf_of_le (f : FmtBhw) (wd ws : Reg) {i8 : Nat} (h : i8 ≤ 255) (s : State) :
    exec (Instr.shf f wd ws i8) s = staged f.fmt wd
      ((List.range (laneCount f.fmt)).map fun i => (i, lane (s.rd ws) f.fmt (shfIndex i8 i))) s :=
  (exec_shf f wd ws i8 s).trans (withImmediate_of_true (i8Ok_of_le h) _)

theorem exec_sldi_of_lt (df : Fmt) (wd ws : Reg) {n : Nat} (h : n < laneCount df) (s : State) :
    exec (Instr.sldi df wd ws n) s = staged .b wd (slide df (s.rd ws) (s.rd wd) n) s :=
  (exec_sldi df wd ws n s).trans (checkIndex_of_lt h _)

/-- Settles O60. -/
theorem stagingLeftoverNeverCommitted : Obligations.StagingLeftoverNeverCommitted := by
  unfold Obligations.StagingLeftoverNeverCommitted
  intro s df f wd ws wt rt i8 n X
  refine ⟨?ilvev, ?ilvod, ?ilvl, ?ilvr, ?pckev, ?pckod, ?vshf, fun hi8 => ?shf, ?sld, fun hn => ?sldi⟩
  case ilvev => exact exec_eq_commit_stage (exec_ilvev df wd ws wt s) (stage_interleave_eq ..)
  case ilvod => exact exec_eq_commit_stage (exec_ilvod df wd ws wt s) (stage_interleave_eq ..)
  case ilvl => exact exec_eq_commit_stage (exec_ilvl df wd ws wt s) (stage_interleave_eq ..)
  case ilvr => exact exec_eq_commit_stage (exec_ilvr df wd ws wt s) (stage_interleave_eq ..)
  case pckev => exact exec_eq_commit_stage (exec_pckev df wd ws wt s) (stage_pack_eq ..)
  case pckod => exact exec_eq_commit_stage (exec_pckod df wd ws wt s) (stage_pack_eq ..)
  case vshf => exact exec_eq_commit_stage (exec_vshf df wd ws wt s) (stage_map_eq ..)
  case shf => exact exec_eq_commit_stage (exec_shf_of_le f wd ws hi8 s) (stage_map_eq ..)
  case sld => exact exec_eq_commit_stage (exec_sld df wd ws rt s) (stage_slide_eq ..)
  case sldi => exact exec_eq_commit_stage (exec_sldi_of_lt df wd ws hn s) (stage_slide_eq ..)

/-! ## Shuffle and slide -/

/-- The selector of `vshf` read as bits, as the rule gives it, and as the kernel computes it. -/
theorem vshfLane_eq (df : Fmt) (S T : Vec) (c : Lane df) :
    vshfLane df S T c =
      if c.extractLsb' 6 2 ≠ 0 then 0
      else if (c.extractLsb' 0 6).toNat % (2 * laneCount df) < laneCount df then
        lane T df ((c.extractLsb' 0 6).toNat % (2 * laneCount df))
      else lane S df ((c.extractLsb' 0 6).toNat % (2 * laneCount df) - laneCount df) := by
  have hlow : (c.extractLsb' 0 6).toNat = c.toNat % 64 := by
    rw [BitVec.extractLsb'_toNat, Nat.shiftRight_zero]
  have hhigh : c.extractLsb' 6 2 = 0 ↔ c.toNat / 64 % 4 = 0 := by
    rw [← BitVec.toNat_inj, BitVec.extractLsb'_toNat, Nat.shiftRight_eq_div_pow]; rfl
  simp only [vshfLane, hlow, ne_eq, hhigh]

theorem shfIndex_group (i8 g : Nat) {q : Nat} (hq : q < 4) : shfIndex i8 (4 * g + q) = 4 * g + i8 / 4 ^ q % 4 := by
  have hmod : (4 * g + q) % 4 = q := by omega
  rw [shfIndex, hmod, Nat.pow_mul, Nat.add_sub_cancel]

/-- Settles O37. -/
theorem shuffles : Obligations.Shuffles := by
  unfold Obligations.Shuffles
  intro s df f wd ws wt i8
  constructor
  · exact rowCommits_of_staged (decode_vshf df wd ws wt) (exec_vshf df wd ws wt s) fun k hk =>
      (lane_stage_map df _ 0 hk).trans (vshfLane_eq df _ _ _)
  · intro hi8
    have hd := decode_shf f wd ws i8 hi8
    refine rowCommits_of_staged (by cases f <;> exact hd) (exec_shf_of_le f wd ws hi8 s) fun g q hk hq => ?_
    rw [lane_stage_map f.fmt _ 0 hk, shfIndex_group i8 g hq]

/-- Settles O38. -/
theorem slides : Obligations.Slides := by
  unfold Obligations.Slides
  intro s df wd ws rt m
  constructor
  · exact rowCommits_of_staged (decode_sld df wd ws rt) (exec_sld df wd ws rt s) fun _ _ hg hj =>
      lane_stage_slide df _ _ _ 0 hg hj
  · exact fun hm => rowCommits_of_staged (decode_sldi df wd ws m hm) (exec_sldi_of_lt df wd ws hm s)
      fun _ _ hg hj => lane_stage_slide df _ _ _ 0 hg hj

/-! ## Broadcast -/

theorem exec_splati_of_lt (df : Fmt) (wd ws : Reg) {n : Nat} (h : n < laneCount df) (s : State) :
    exec (Instr.splati df wd ws n) s = broadcast df wd (zext (lane (s.rd ws) df n)) s :=
  (exec_splati df wd ws n s).trans (checkIndex_of_lt h _)

/-- Settles O39. -/
theorem splats : Obligations.Splats := by
  unfold Obligations.Splats
  intro s df wd ws rt n
  refine ⟨?splat, fun hn => ?splati, fun hn => ?fault⟩
  case splat =>
    exact rowCommits_of_broadcast (decode_splat df wd ws rt) (exec_splat df wd ws rt s) fun V hV k hk =>
      (hV k hk).trans (trunc_zext df _)
  case splati =>
    exact rowCommits_of_broadcast (decode_splati df wd ws n hn) (exec_splati_of_lt df wd ws hn s) fun V hV k hk =>
      (hV k hk).trans (trunc_zext df _)
  case fault => exact (exec_splati df wd ws n s).trans (checkIndex_of_ge hn _)

theorem s10Ok_of_bounds {s10 : Int} (h1 : -512 ≤ s10) (h2 : s10 ≤ 511) : s10Ok s10 = true := by
  simp [s10Ok, h1, h2]

/-- The scalar operand in a lane is the port's low bits: a lane no wider than the port loses nothing to its width. -/
theorem trunc_scalarIn (s : State) {df : Fmt} (h : df = .d → s.params.gprLen = .w64) :
    trunc df (scalarIn s) = s.gprIn.setWidth (laneBits df) := by
  have hle : laneBits df ≤ s.params.gprLen.bits := by
    cases df
    case d => rw [h rfl]; decide
    all_goals cases s.params.gprLen <;> decide
  apply BitVec.eq_of_toNat_eq
  rw [trunc, BitVec.ofInt_natCast, BitVec.toNat_ofNat, BitVec.toNat_setWidth, scalarIn,
    Nat.mod_mod_of_dvd _ (Nat.pow_dvd_pow 2 hle)]

/-- Settles O40. -/
theorem loadImmediateAndFill : Obligations.LoadImmediateAndFill := by
  unfold Obligations.LoadImmediateAndFill
  intro s df wd rs s10
  constructor
  · intro h1 h2
    exact rowCommits_of_broadcast (decode_ldi df wd s10 h1 h2)
      ((exec_ldi df wd s10 s).trans (withImmediate_of_true (s10Ok_of_bounds h1 h2) _)) fun _ hV => hV
  · intro hg
    exact rowCommits_of_broadcast (decode_fill df wd rs) (exec_fill df wd rs s hg) fun _ hV k hk =>
      (hV k hk).trans (trunc_scalarIn s hg)

end Sys2Proof.Machine

/-! ## Interleave and pack -/

namespace Sys2Proof

open Machine

/-- Settles O34. -/
theorem interleave : Obligations.Interleave := by
  unfold Obligations.Interleave
  intro s df wd ws wt
  refine ⟨?ilvev, ?ilvod, ?ilvl, ?ilvr⟩
  case ilvev =>
    exact rowCommits_of_staged (decode_ilvev df wd ws wt) (exec_ilvev df wd ws wt s) fun _ =>
      lane_stage_interleave df _ _ _ 0
  case ilvod =>
    exact rowCommits_of_staged (decode_ilvod df wd ws wt) (exec_ilvod df wd ws wt s) fun _ =>
      lane_stage_interleave df _ _ _ 0
  case ilvl =>
    exact rowCommits_of_staged (decode_ilvl df wd ws wt) (exec_ilvl df wd ws wt s) fun _ =>
      lane_stage_interleave df _ _ _ 0
  case ilvr =>
    exact rowCommits_of_staged (decode_ilvr df wd ws wt) (exec_ilvr df wd ws wt s) fun _ =>
      lane_stage_interleave df _ _ _ 0

/-- Settles O35. -/
theorem pack : Obligations.Pack := by
  unfold Obligations.Pack
  intro s df wd ws wt
  constructor
  · exact rowCommits_of_staged (decode_pckev df wd ws wt) (exec_pckev df wd ws wt s) fun _ =>
      lane_stage_pack df _ _ _ 0
  · exact rowCommits_of_staged (decode_pckod df wd ws wt) (exec_pckod df wd ws wt s) fun _ =>
      lane_stage_pack df _ _ _ 0

/-- What a row says of the state after it: the result stands in `wd`, and every other register is unchanged. -/
theorem rd_of_rowCommits {w : Word32} {i : Instr} {s t : State} {wd : Reg} {P : Vec → Prop}
    (h : RowCommits w i s wd P) (hx : exec i s = .next t) : P (t.rd wd) ∧ ∀ q, q ≠ wd → t.rd q = s.rd q := by
  obtain ⟨-, V, hV, hP⟩ := h
  obtain rfl : commit s wd V = t := Host.Outcome.next.inj (hV.symm.trans hx)
  exact ⟨(commit_rd_same s wd V).symm ▸ hP, fun q hq => commit_rd_ne s V hq⟩

/-- Settles O36: `ilvr` leaves lane `k` of `B` in even lane `k` and of `A` in the odd one, `ilvl` does the same from the
upper halves, and a pack takes the lower half of its lanes from the first and the upper half from the second. -/
theorem packInvertsInterleave : Obligations.PackInvertsInterleave := by
  unfold Obligations.PackInvertsInterleave
  intro s t u v x df a b l r e o hla hlb hrl hl hr he ho
  obtain ⟨-, -, hrowl, -⟩ := interleave s df l a b
  obtain ⟨-, -, -, hrowr⟩ := interleave t df r a b
  obtain ⟨hL, hkeepl⟩ := rd_of_rowCommits hrowl hl
  obtain ⟨hR, hkeepr⟩ := rd_of_rowCommits hrowr hr
  obtain ⟨hE, -⟩ := rd_of_rowCommits (pack u df e l r).1 he
  obtain ⟨hO, -⟩ := rd_of_rowCommits (pack u df o l r).2 ho
  rw [hkeepl a hla.symm, hkeepl b hlb.symm] at hR
  rw [hkeepr l hrl.symm] at hE hO
  constructor
  · refine eq_of_half_lanes df fun k hk => ?_
    rw [(hE k hk).1, (hE k hk).2, (hR k hk).1, (hL k hk).1]
    exact ⟨rfl, rfl⟩
  · refine eq_of_half_lanes df fun k hk => ?_
    rw [(hO k hk).1, (hO k hk).2, (hR k hk).2, (hL k hk).2]
    exact ⟨rfl, rfl⟩

end Sys2Proof
end

section
/-! Element transfer (40 R146 to R151) and the exactness of a lane store (20_memory R66). -/

namespace Sys2Proof.Machine

/-! ## What the scalar result port carries -/

theorem ofInt_emod_two_pow_w64 (v : Int) : BitVec.ofInt 64 (v % 2 ^ 64) = BitVec.ofInt 64 v :=
  trunc_eq_of_modEq (df := .d) (Int.mod_modEq v _)

theorem ofInt_emod_two_pow_w32 (v : Int) : BitVec.ofInt 64 (v % 2 ^ 32) = (BitVec.ofInt 32 v).setWidth 64 := by
  apply BitVec.eq_of_toNat_eq
  simp only [BitVec.toNat_ofInt, BitVec.toNat_setWidth]
  omega

/-- `copy_s`: the lane sign-extended to GPRLEN bits (40 R146). -/
theorem scalarOut_sext {n : Nat} (s : State) (rd : Gpr) (x : BitVec n) :
    scalarOut s rd (sext x) = { rd := rd, value := match s.params.gprLen with
      | .w64 => x.signExtend 64
      | .w32 => (x.signExtend 32).setWidth 64 } := by
  rw [scalarOut]
  cases s.params.gprLen
  · exact congrArg (ScalarOut.mk rd) (ofInt_emod_two_pow_w32 _)
  · exact congrArg (ScalarOut.mk rd) (ofInt_emod_two_pow_w64 _)

/-- `copy_u`: a lane no wider than the port leaves as it is (40 R147). -/
theorem scalarOut_zext {n : Nat} (s : State) (rd : Gpr) (x : BitVec n) (h : n ≤ s.params.gprLen.bits) :
    scalarOut s rd (zext x) = { rd := rd, value := x.setWidth 64 } := by
  have hlt : zext x < 2 ^ s.params.gprLen.bits :=
    lt_of_lt_of_le (zext_bounds x).2 (pow_le_pow_right₀ (by decide) h)
  rw [scalarOut, Int.emod_eq_of_lt (zext_bounds x).1 hlt, zext, BitVec.ofInt_natCast]
  exact congrArg (ScalarOut.mk rd) (BitVec.ofNat_toNat 64 x)

theorem laneBits_le_gprLen (f : FmtBhw) {g : GprLen} (h : f = .w → g = .w64) : laneBits f.fmt ≤ g.bits := by
  cases g <;> cases f <;> decide

/-- Settles O41. -/
theorem copyToScalar : Obligations.CopyToScalar := by
  unfold Obligations.CopyToScalar
  intro s df f rd ws n
  refine ⟨fun hn hg => ⟨decode_copyS df rd ws n hn, ?copyS⟩, fun hn hg => ⟨decode_copyU f rd ws n hn, ?copyU⟩⟩
  case copyS =>
    have hout := scalarOut_sext s rd (lane (s.rd ws) df n)
    rw [exec_copyS df rd ws n s hg, opCopyS, checkIndex_of_lt hn, loadS, loadLane_of_lt s ws hn]
    exact congrArg (fun o => Host.Outcome.next { s with gprOut := o }) hout
  case copyU =>
    have hout := scalarOut_zext s rd (lane (s.rd ws) f.fmt n) (laneBits_le_gprLen f hg)
    rw [exec_copyU f rd ws n s hg, opCopyU, checkIndex_of_lt hn, loadU, loadLane_of_lt s ws hn]
    exact congrArg (fun o => Host.Outcome.next { s with gprOut := o }) hout

/-! ## One lane of a register -/

theorem lane_putLane (V : Vec) (df : Fmt) {n k : Nat} (x : Lane df) (hn : n < laneCount df) (hk : k < laneCount df) :
    lane (putLane V df n x) df k = if k = n then x else lane V df k := by
  split
  case isTrue h => rw [h, lane_putLane_same V df x hn]
  case isFalse h => exact lane_putLane_ne V df x hk h

/-- A row that stores one lane replaces it and keeps the others. -/
theorem rowCommits_of_oneLane {w : Word32} {i : Instr} {s : State} {wd : Reg} {df : Fmt} {n : Nat} {v : Int}
    {x : Lane df} (hn : n < laneCount df) (hd : decode w = .ok i) (he : exec i s = oneLane df wd n v s)
    (hx : trunc df v = x) :
    RowCommits w i s wd fun V => ∀ k, k < laneCount df → lane V df k = if k = n then x else lane (s.rd wd) df k :=
  ⟨hd, _, he.trans (oneLane_spec df wd v s hn), fun _ hk => by rw [lane_putLane _ _ _ hn hk, hx]⟩

/-- Settles O42. -/
theorem insertAndMove : Obligations.InsertAndMove := by
  unfold Obligations.InsertAndMove
  intro s df wd ws rs n
  refine ⟨fun hn hg => ?insert, fun hn => ?insve, ?move⟩
  case insert =>
    exact rowCommits_of_oneLane hn (decode_insert df wd rs n hn)
      ((exec_insert df wd rs n s hg).trans (checkIndex_of_lt hn _)) (trunc_scalarIn s hg)
  case insve =>
    refine rowCommits_of_oneLane hn (decode_insve df wd ws n hn)
      ((exec_insve df wd ws n s).trans (checkIndex_of_lt hn _)) ?_
    rw [loadU, trunc_zext, loadLane_of_lt s ws (laneCount_pos df)]
  case move => exact rowCommits_of_whole (decode_move wd ws) (exec_move wd ws s) rfl

/-! ## A lane store -/

theorem laneBits_eq_bytes (df : Fmt) : laneBits df = laneBits df / 8 * 8 := by cases df <;> rfl

/-- A byte lane outside lane `i` shares no bit with it. -/
theorem lane_byte_putLane_outside (V : Vec) (df : Fmt) (i : Nat) (x : Lane df) {j : Nat} (hj : j < 16)
    (hout : j < i * (laneBits df / 8) ∨ (i + 1) * (laneBits df / 8) ≤ j) :
    lane (putLane V df i x) .b j = lane V .b j := by
  apply BitVec.eq_of_getLsbD_eq
  intro k hk
  have hk8 : k < 8 := hk
  have hbyte : laneBits .b = 8 := rfl
  have hstart : i * laneBits df = i * (laneBits df / 8) * 8 := by rw [Nat.mul_assoc, ← laneBits_eq_bytes]
  have hend : i * laneBits df + laneBits df = (i + 1) * (laneBits df / 8) * 8 := by
    rw [Nat.mul_assoc, ← laneBits_eq_bytes, Nat.succ_mul]
  rw [getLsbD_lane, getLsbD_lane, hbyte, getLsbD_putLane _ _ _ _ (by omega), if_neg (by omega)]

/-- A half lane is its two byte lanes, the lower one least significant (decision D7). -/
theorem toNat_lane_half (V : Vec) (j : Nat) :
    (lane V .h j).toNat = (lane V .b (2 * j)).toNat + 256 * (lane V .b (2 * j + 1)).toNat := by
  have hlow : 2 * j * laneBits .b = j * laneBits .h := by simp only [laneBits]; omega
  have hhigh : (2 * j + 1) * laneBits .b = j * laneBits .h + 8 := by simp only [laneBits]; omega
  simp only [lane, BitVec.extractLsb'_toNat, Nat.shiftRight_eq_div_pow, hlow, hhigh, Nat.pow_add,
    ← Nat.div_div_eq_div_mul]
  simp only [laneBits]
  omega

theorem loadU_half_eq_bytes (s : State) (r : Reg) {j : Nat} (hj : j < 8) :
    loadU s r .h j = loadU s r .b (2 * j) + 256 * loadU s r .b (2 * j + 1) := by
  have hh : j < laneCount .h := hj
  have hb : 2 * j < laneCount .b ∧ 2 * j + 1 < laneCount .b := by simp only [laneCount_eq]; omega
  have hbytes := toNat_lane_half (s.rd r) j
  simp only [loadU, zext, loadLane_of_lt s r hh, loadLane_of_lt s r hb.1, loadLane_of_lt s r hb.2]
  exact_mod_cast hbytes

/-- Settles O59. -/
theorem laneWritesAreExact : Obligations.LaneWritesAreExact := by
  unfold Obligations.LaneWritesAreExact
  intro s r df i j v hi
  rw [store_of_lt s r v hi]
  refine ⟨?lane, fun q hq => State.rd_wr_ne s _ hq, rfl, fun hj hout => ?byte, loadU_half_eq_bytes s r⟩
  case lane => rw [State.rd_wr_same, lane_putLane_same _ _ _ hi]
  case byte => rw [State.rd_wr_same, lane_byte_putLane_outside _ _ _ _ hj hout]

end Sys2Proof.Machine
end

section
/-! What a result depends on: an operation computes it from the registers it names as sources, from `gpr_in` where
it takes it, and from the parameters (10_state section 1). One rule per driver, then the case analysis over the
instructions; that an operation repeated over a destination it does not read changes nothing follows. -/

namespace Sys2Proof.Machine

/-! ## Two runs that leave the same result -/

/-- Where both outcomes are next states, the destination of `i` (the wide register, or `gpr_out`) is the same in
both. -/
def SameResult (i : Instr) (r r' : Result) : Prop :=
  ∀ t t', r = .next t → r' = .next t' →
    (∀ wd, i.vecDest = some wd → t.rd wd = t'.rd wd) ∧ (∀ rd, i.gprDest = some rd → t.gprOut = t'.gprOut)

namespace SameResult

section

variable {i : Instr} {s s' : State} {r r' : Result} {wd ws wt : Reg} {rd : Gpr} {df : Fmt} {n : Nat} {v v' : Int}

theorem of_commit {V : Vec} (hd : i.vecDest = some wd) (hr : i.gprDest = none) (h : r = .next (commit s wd V))
    (h' : r' = .next (commit s' wd V)) : SameResult i r r' := by
  subst h h'
  rintro _ _ ⟨⟩ ⟨⟩
  refine ⟨fun q hq => ?_, fun _ hq => absurd (hr.symm.trans hq) nofun⟩
  obtain rfl : wd = q := Option.some.inj (hd.symm.trans hq)
  rw [commit_rd_same, commit_rd_same]

/-! ### The checks before an operation -/

theorem withImmediate {b : Bool} (h : SameResult i r r') :
    SameResult i (withImmediate b r) (withImmediate b r') := fun _ _ ht ht' =>
  h _ _ (withImmediate_eq_next.mp ht).2 (withImmediate_eq_next.mp ht').2

theorem checkIndex (h : SameResult i r r') : SameResult i (checkIndex df n r) (checkIndex df n r') := by
  obtain hn | hn := lt_or_ge n (laneCount df)
  · rwa [checkIndex_of_lt hn, checkIndex_of_lt hn]
  · rw [checkIndex_of_ge hn]
    exact fun _ _ => nofun

theorem requireGprLen64 (hp : s.params = s'.params) (h : SameResult i r r') :
    SameResult i (requireGprLen64 s r) (requireGprLen64 s' r') := by
  rw [Machine.requireGprLen64, Machine.requireGprLen64, hp]
  cases s'.params.gprLen
  · exact fun _ _ => nofun
  · exact h

/-! ### The drivers -/

/-- The lane-wise driver, from registers equal in both states and kernels that agree where those registers are
read. -/
theorem lanewise3_of_kernel {k k' : Lane df → Lane df → Lane df → Int} (hd : i.vecDest = some wd)
    (hr : i.gprDest = none) (hs : s.rd ws = s'.rd ws) (ht : s.rd wt = s'.rd wt)
    (hk : ∀ d d' a b, (s.rd wd = s'.rd wd → d = d') → k d a b = k' d' a b) :
    SameResult i (lanewise3 df wd ws wt k s) (lanewise3 df wd ws wt k' s') := by
  obtain ⟨V, hV, hlanes⟩ := lanewise3_spec df wd ws wt k s
  obtain ⟨V', hV', hlanes'⟩ := lanewise3_spec df wd ws wt k' s'
  obtain rfl : V = V' := eq_of_lanes df fun j hj => by
    rw [hlanes j hj, hlanes' j hj]
    simp only [loadLane, hs, ht]
    rw [hk _ _ _ _ fun hwd => by rw [hwd]]
  exact of_commit hd hr hV hV'

/-- A kernel of the lanes of `ws` and `wt`. -/
theorem lanewise3 {k : Lane df → Lane df → Int} (hd : i.vecDest = some wd) (hr : i.gprDest = none)
    (h : ∀ r ∈ [ws, wt], s.rd r = s'.rd r) :
    SameResult i (lanewise3 df wd ws wt (fun _ a b => k a b) s)
      (lanewise3 df wd ws wt (fun _ a b => k a b) s') :=
  lanewise3_of_kernel hd hr (h ws (by simp)) (h wt (by simp)) fun _ _ _ _ _ => rfl

/-- A kernel of the lanes of `ws` and `wt` and the old lane of `wd`. -/
theorem accumulate3 {k : Lane df → Lane df → Lane df → Int} (hd : i.vecDest = some wd) (hr : i.gprDest = none)
    (h : ∀ r ∈ [wd, ws, wt], s.rd r = s'.rd r) :
    SameResult i (Machine.lanewise3 df wd ws wt k s) (Machine.lanewise3 df wd ws wt k s') :=
  lanewise3_of_kernel hd hr (h ws (by simp)) (h wt (by simp)) fun _ _ _ _ hwd => by rw [hwd (h wd (by simp))]

/-- A kernel of the lane of `ws`. -/
theorem lanewise2 {k : Lane df → Int} (hd : i.vecDest = some wd) (hr : i.gprDest = none)
    (h : ∀ r ∈ [ws], s.rd r = s'.rd r) :
    SameResult i (lanewise2 df wd ws (fun _ a => k a) s) (lanewise2 df wd ws (fun _ a => k a) s') :=
  lanewise3 (ws := ws) (wt := ws) (k := fun a _ => k a) hd hr (by simpa using h)

/-- A kernel of the lane of `ws` and the old lane of `wd`. -/
theorem accumulate2 {k : Lane df → Lane df → Int} (hd : i.vecDest = some wd) (hr : i.gprDest = none)
    (h : ∀ r ∈ [wd, ws], s.rd r = s'.rd r) :
    SameResult i (Machine.lanewise2 df wd ws k s) (Machine.lanewise2 df wd ws k s') :=
  accumulate3 (ws := ws) (wt := ws) (k := fun d a _ => k d a) hd hr (by simpa using h)

theorem broadcast (hd : i.vecDest = some wd) (hr : i.gprDest = none) (hv : v = v') :
    SameResult i (broadcast df wd v s) (broadcast df wd v' s') := by
  subst hv
  obtain ⟨V, hV, hlanes⟩ := broadcast_spec df wd v s
  obtain ⟨V', hV', hlanes'⟩ := broadcast_spec df wd v s'
  obtain rfl : V = V' := eq_of_lanes df fun j hj => (hlanes j hj).trans (hlanes' j hj).symm
  exact of_commit hd hr hV hV'

theorem whole {V V' : Vec} (hd : i.vecDest = some wd) (hr : i.gprDest = none) (hV : V = V') :
    SameResult i (whole wd V s) (whole wd V' s') :=
  of_commit hd hr (whole_spec wd V s) (congrArg (Machine.whole wd · s') hV.symm)

theorem staged {l l' : List (Nat × Lane df)} (hd : i.vecDest = some wd) (hr : i.gprDest = none) (hl : l = l') :
    SameResult i (staged df wd l s) (staged df wd l' s') :=
  of_commit hd hr (staged_eq df wd l s) (congrArg (Machine.staged df wd · s') hl.symm)

theorem oneLane (hd : i.vecDest = some wd) (hr : i.gprDest = none) (hwd : s.rd wd = s'.rd wd) (hv : v = v') :
    SameResult i (oneLane df wd n v s) (oneLane df wd n v' s') := by
  have hV : putLane (s.rd wd) df (n % laneCount df) (trunc df v)
      = putLane (s'.rd wd) df (n % laneCount df) (trunc df v') := by rw [hwd, hv]
  exact whole hd hr hV

theorem driveGprOut (hd : i.vecDest = none) (hp : s.params = s'.params) (hv : v = v') :
    SameResult i (driveGprOut s rd v) (driveGprOut s' rd v') := by
  subst hv
  rintro _ _ ⟨⟩ ⟨⟩
  exact ⟨fun _ hq => absurd (hd.symm.trans hq) nofun, fun _ _ => by simp only [hp]⟩

end

end SameResult

/-! ## Operands read from equal registers are equal -/

section

variable {s s' : State} {ws : Reg} {df : Fmt}

theorem loadS_congr (h : s.rd ws = s'.rd ws) (n : Nat) : loadS s ws df n = loadS s' ws df n := by
  simp only [loadS, loadLane, h]

theorem loadU_congr (h : s.rd ws = s'.rd ws) (n : Nat) : loadU s ws df n = loadU s' ws df n := by
  simp only [loadU, loadLane, h]

theorem scalarIn_congr (hp : s.params = s'.params) (hg : s.gprIn = s'.gprIn) : scalarIn s = scalarIn s' := by
  rw [scalarIn, scalarIn, hp, hg]

theorem scalarIndex_congr (hp : s.params = s'.params) (hg : s.gprIn = s'.gprIn) :
    scalarIndex s df = scalarIndex s' df := congrArg (· % laneCount df) (scalarIn_congr hp hg)

end

/-! ## Every instruction -/

/-- An instruction's result depends only on its sources, on `gpr_in` where it takes it, and on the parameters. Each case
names the operation that `exec` runs; the rule of its driver asks for the registers read, which are `i.sources`: the
first by `h _ (.head _)`, the next by `h _ (.tail _ (.head _))`. -/
theorem sameResult_exec (i : Instr) {s s' : State} (hp : s.params = s'.params)
    (hg : i.readsGprIn = true → s.gprIn = s'.gprIn) (h : ∀ r ∈ i.sources, s.rd r = s'.rd r) :
    SameResult i (exec i s) (exec i s') := by
  cases i
  case copySB | copySH | copySW =>
    exact show SameResult _ (opCopyS ..) (opCopyS ..) from
      .checkIndex (.driveGprOut rfl hp (loadS_congr (h _ (.head _)) _))
  case copySD =>
    refine .requireGprLen64 hp ?_
    exact show SameResult _ (opCopyS ..) (opCopyS ..) from
      .checkIndex (.driveGprOut rfl hp (loadS_congr (h _ (.head _)) _))
  case copyUB | copyUH =>
    exact show SameResult _ (opCopyU ..) (opCopyU ..) from
      .checkIndex (.driveGprOut rfl hp (loadU_congr (h _ (.head _)) _))
  case copyUW =>
    refine .requireGprLen64 hp ?_
    exact show SameResult _ (opCopyU ..) (opCopyU ..) from
      .checkIndex (.driveGprOut rfl hp (loadU_congr (h _ (.head _)) _))
  case insertB _ rs _ | insertH _ rs _ | insertW _ rs _ =>
    exact show SameResult _ (opInsert _ _ rs ..) (opInsert _ _ rs ..) from
      .checkIndex (.oneLane rfl rfl (h _ (.head _)) (congrArg _ (scalarIn_congr hp (hg rfl))))
  case insertD _ rs _ =>
    refine .requireGprLen64 hp ?_
    exact show SameResult _ (opInsert _ _ rs ..) (opInsert _ _ rs ..) from
      .checkIndex (.oneLane rfl rfl (h _ (.head _)) (congrArg _ (scalarIn_congr hp (hg rfl))))
  case insveB | insveH | insveW | insveD =>
    exact show SameResult _ (opInsve ..) (opInsve ..) from
      .checkIndex (.oneLane rfl rfl (h _ (.head _)) (loadU_congr (h _ (.tail _ (.head _))) _))
  case fillB _ rs | fillH _ rs | fillW _ rs =>
    exact show SameResult _ (opFill _ _ rs ..) (opFill _ _ rs ..) from
      .broadcast rfl rfl (congrArg _ (scalarIn_congr hp (hg rfl)))
  case fillD _ rs =>
    refine .requireGprLen64 hp ?_
    exact show SameResult _ (opFill _ _ rs ..) (opFill _ _ rs ..) from
      .broadcast rfl rfl (congrArg _ (scalarIn_congr hp (hg rfl)))
  case moveV => exact show SameResult _ (opMove ..) (opMove ..) from .whole rfl rfl (h _ (.head _))
  case addvB | addvH | addvW | addvD => exact show SameResult _ (opAddv ..) (opAddv ..) from .lanewise3 rfl rfl h
  case addviB | addviH | addviW | addviD =>
    exact show SameResult _ (opAddvi ..) (opAddvi ..) from .withImmediate (.lanewise2 rfl rfl h)
  case subvB | subvH | subvW | subvD => exact show SameResult _ (opSubv ..) (opSubv ..) from .lanewise3 rfl rfl h
  case subviB | subviH | subviW | subviD =>
    exact show SameResult _ (opSubvi ..) (opSubvi ..) from .withImmediate (.lanewise2 rfl rfl h)
  case addsSB | addsSH | addsSW | addsSD =>
    exact show SameResult _ (opAddsS ..) (opAddsS ..) from .lanewise3 rfl rfl h
  case addsUB | addsUH | addsUW | addsUD =>
    exact show SameResult _ (opAddsU ..) (opAddsU ..) from .lanewise3 rfl rfl h
  case subsSB | subsSH | subsSW | subsSD =>
    exact show SameResult _ (opSubsS ..) (opSubsS ..) from .lanewise3 rfl rfl h
  case subsUB | subsUH | subsUW | subsUD =>
    exact show SameResult _ (opSubsU ..) (opSubsU ..) from .lanewise3 rfl rfl h
  case subsusUB | subsusUH | subsusUW | subsusUD =>
    exact show SameResult _ (opSubsusU ..) (opSubsusU ..) from .lanewise3 rfl rfl h
  case subsuuSB | subsuuSH | subsuuSW | subsuuSD =>
    exact show SameResult _ (opSubsuuS ..) (opSubsuuS ..) from .lanewise3 rfl rfl h
  case asubSB | asubSH | asubSW | asubSD =>
    exact show SameResult _ (opAsubS ..) (opAsubS ..) from .lanewise3 rfl rfl h
  case asubUB | asubUH | asubUW | asubUD =>
    exact show SameResult _ (opAsubU ..) (opAsubU ..) from .lanewise3 rfl rfl h
  case addAB | addAH | addAW | addAD => exact show SameResult _ (opAddA ..) (opAddA ..) from .lanewise3 rfl rfl h
  case addsAB | addsAH | addsAW | addsAD =>
    exact show SameResult _ (opAddsA ..) (opAddsA ..) from .lanewise3 rfl rfl h
  case aveSB | aveSH | aveSW | aveSD => exact show SameResult _ (opAveS ..) (opAveS ..) from .lanewise3 rfl rfl h
  case aveUB | aveUH | aveUW | aveUD => exact show SameResult _ (opAveU ..) (opAveU ..) from .lanewise3 rfl rfl h
  case averSB | averSH | averSW | averSD =>
    exact show SameResult _ (opAverS ..) (opAverS ..) from .lanewise3 rfl rfl h
  case averUB | averUH | averUW | averUD =>
    exact show SameResult _ (opAverU ..) (opAverU ..) from .lanewise3 rfl rfl h
  case maxAB | maxAH | maxAW | maxAD =>
    exact show SameResult _ (opMaxA ..) (opMaxA ..) from
      .lanewise3_of_kernel rfl rfl (h _ (.head _)) (h _ (.tail _ (.head _))) fun _ _ _ _ _ => by rw [hp]
  case minAB | minAH | minAW | minAD =>
    exact show SameResult _ (opMinA ..) (opMinA ..) from
      .lanewise3_of_kernel rfl rfl (h _ (.head _)) (h _ (.tail _ (.head _))) fun _ _ _ _ _ => by rw [hp]
  case maxSB | maxSH | maxSW | maxSD => exact show SameResult _ (opMaxS ..) (opMaxS ..) from .lanewise3 rfl rfl h
  case maxUB | maxUH | maxUW | maxUD => exact show SameResult _ (opMaxU ..) (opMaxU ..) from .lanewise3 rfl rfl h
  case minSB | minSH | minSW | minSD => exact show SameResult _ (opMinS ..) (opMinS ..) from .lanewise3 rfl rfl h
  case minUB | minUH | minUW | minUD => exact show SameResult _ (opMinU ..) (opMinU ..) from .lanewise3 rfl rfl h
  case maxiSB | maxiSH | maxiSW | maxiSD =>
    exact show SameResult _ (opMaxiS ..) (opMaxiS ..) from .withImmediate (.lanewise2 rfl rfl h)
  case maxiUB | maxiUH | maxiUW | maxiUD =>
    exact show SameResult _ (opMaxiU ..) (opMaxiU ..) from .withImmediate (.lanewise2 rfl rfl h)
  case miniSB | miniSH | miniSW | miniSD =>
    exact show SameResult _ (opMiniS ..) (opMiniS ..) from .withImmediate (.lanewise2 rfl rfl h)
  case miniUB | miniUH | miniUW | miniUD =>
    exact show SameResult _ (opMiniU ..) (opMiniU ..) from .withImmediate (.lanewise2 rfl rfl h)
  case ceqB | ceqH | ceqW | ceqD => exact show SameResult _ (opCeq ..) (opCeq ..) from .lanewise3 rfl rfl h
  case ceqiB | ceqiH | ceqiW | ceqiD =>
    exact show SameResult _ (opCeqi ..) (opCeqi ..) from .withImmediate (.lanewise2 rfl rfl h)
  case cltSB | cltSH | cltSW | cltSD => exact show SameResult _ (opCltS ..) (opCltS ..) from .lanewise3 rfl rfl h
  case cltUB | cltUH | cltUW | cltUD => exact show SameResult _ (opCltU ..) (opCltU ..) from .lanewise3 rfl rfl h
  case cltiSB | cltiSH | cltiSW | cltiSD =>
    exact show SameResult _ (opCltiS ..) (opCltiS ..) from .withImmediate (.lanewise2 rfl rfl h)
  case cltiUB | cltiUH | cltiUW | cltiUD =>
    exact show SameResult _ (opCltiU ..) (opCltiU ..) from .withImmediate (.lanewise2 rfl rfl h)
  case cleSB | cleSH | cleSW | cleSD => exact show SameResult _ (opCleS ..) (opCleS ..) from .lanewise3 rfl rfl h
  case cleUB | cleUH | cleUW | cleUD => exact show SameResult _ (opCleU ..) (opCleU ..) from .lanewise3 rfl rfl h
  case cleiSB | cleiSH | cleiSW | cleiSD =>
    exact show SameResult _ (opCleiS ..) (opCleiS ..) from .withImmediate (.lanewise2 rfl rfl h)
  case cleiUB | cleiUH | cleiUW | cleiUD =>
    exact show SameResult _ (opCleiU ..) (opCleiU ..) from .withImmediate (.lanewise2 rfl rfl h)
  case haddSH | haddSW | haddSD => exact show SameResult _ (opHaddS ..) (opHaddS ..) from .lanewise3 rfl rfl h
  case haddUH | haddUW | haddUD => exact show SameResult _ (opHaddU ..) (opHaddU ..) from .lanewise3 rfl rfl h
  case hsubSH | hsubSW | hsubSD => exact show SameResult _ (opHsubS ..) (opHsubS ..) from .lanewise3 rfl rfl h
  case hsubUH | hsubUW | hsubUD => exact show SameResult _ (opHsubU ..) (opHsubU ..) from .lanewise3 rfl rfl h
  case dotpSH | dotpSW | dotpSD => exact show SameResult _ (opDotpS ..) (opDotpS ..) from .lanewise3 rfl rfl h
  case dotpUH | dotpUW | dotpUD => exact show SameResult _ (opDotpU ..) (opDotpU ..) from .lanewise3 rfl rfl h
  case dpaddSH | dpaddSW | dpaddSD => exact show SameResult _ (opDpaddS ..) (opDpaddS ..) from .accumulate3 rfl rfl h
  case dpaddUH | dpaddUW | dpaddUD => exact show SameResult _ (opDpaddU ..) (opDpaddU ..) from .accumulate3 rfl rfl h
  case dpsubSH | dpsubSW | dpsubSD => exact show SameResult _ (opDpsubS ..) (opDpsubS ..) from .accumulate3 rfl rfl h
  case dpsubUH | dpsubUW | dpsubUD => exact show SameResult _ (opDpsubU ..) (opDpsubU ..) from .accumulate3 rfl rfl h
  case mulvB | mulvH | mulvW | mulvD => exact show SameResult _ (opMulv ..) (opMulv ..) from .lanewise3 rfl rfl h
  case maddvB | maddvH | maddvW | maddvD =>
    exact show SameResult _ (opMaddv ..) (opMaddv ..) from .accumulate3 rfl rfl h
  case msubvB | msubvH | msubvW | msubvD =>
    exact show SameResult _ (opMsubv ..) (opMsubv ..) from .accumulate3 rfl rfl h
  case divSB | divSH | divSW | divSD => exact show SameResult _ (opDivS ..) (opDivS ..) from .lanewise3 rfl rfl h
  case divUB | divUH | divUW | divUD => exact show SameResult _ (opDivU ..) (opDivU ..) from .lanewise3 rfl rfl h
  case modSB | modSH | modSW | modSD => exact show SameResult _ (opModS ..) (opModS ..) from .lanewise3 rfl rfl h
  case modUB | modUH | modUW | modUD => exact show SameResult _ (opModU ..) (opModU ..) from .lanewise3 rfl rfl h
  case mulQH | mulQW => exact show SameResult _ (opMulQ ..) (opMulQ ..) from .lanewise3 rfl rfl h
  case mulrQH | mulrQW => exact show SameResult _ (opMulrQ ..) (opMulrQ ..) from .lanewise3 rfl rfl h
  case maddQH | maddQW => exact show SameResult _ (opMaddQ ..) (opMaddQ ..) from .accumulate3 rfl rfl h
  case maddrQH | maddrQW => exact show SameResult _ (opMaddrQ ..) (opMaddrQ ..) from .accumulate3 rfl rfl h
  case msubQH | msubQW => exact show SameResult _ (opMsubQ ..) (opMsubQ ..) from .accumulate3 rfl rfl h
  case msubrQH | msubrQW => exact show SameResult _ (opMsubrQ ..) (opMsubrQ ..) from .accumulate3 rfl rfl h
  case bclrB | bclrH | bclrW | bclrD => exact show SameResult _ (opBclr ..) (opBclr ..) from .lanewise3 rfl rfl h
  case bclriB | bclriH | bclriW | bclriD =>
    exact show SameResult _ (opBclri ..) (opBclri ..) from .withImmediate (.lanewise2 rfl rfl h)
  case bsetB | bsetH | bsetW | bsetD => exact show SameResult _ (opBset ..) (opBset ..) from .lanewise3 rfl rfl h
  case bsetiB | bsetiH | bsetiW | bsetiD =>
    exact show SameResult _ (opBseti ..) (opBseti ..) from .withImmediate (.lanewise2 rfl rfl h)
  case bnegB | bnegH | bnegW | bnegD => exact show SameResult _ (opBneg ..) (opBneg ..) from .lanewise3 rfl rfl h
  case bnegiB | bnegiH | bnegiW | bnegiD =>
    exact show SameResult _ (opBnegi ..) (opBnegi ..) from .withImmediate (.lanewise2 rfl rfl h)
  case binslB | binslH | binslW | binslD =>
    exact show SameResult _ (opBinsl ..) (opBinsl ..) from .accumulate3 rfl rfl h
  case binsliB | binsliH | binsliW | binsliD =>
    exact show SameResult _ (opBinsli ..) (opBinsli ..) from .withImmediate (.accumulate2 rfl rfl h)
  case binsrB | binsrH | binsrW | binsrD =>
    exact show SameResult _ (opBinsr ..) (opBinsr ..) from .accumulate3 rfl rfl h
  case binsriB | binsriH | binsriW | binsriD =>
    exact show SameResult _ (opBinsri ..) (opBinsri ..) from .withImmediate (.accumulate2 rfl rfl h)
  case satSB | satSH | satSW | satSD =>
    exact show SameResult _ (opSatS ..) (opSatS ..) from .withImmediate (.lanewise2 rfl rfl h)
  case satUB | satUH | satUW | satUD =>
    exact show SameResult _ (opSatU ..) (opSatU ..) from .withImmediate (.lanewise2 rfl rfl h)
  case pcntB | pcntH | pcntW | pcntD => exact show SameResult _ (opPcnt ..) (opPcnt ..) from .lanewise2 rfl rfl h
  case nlocB | nlocH | nlocW | nlocD => exact show SameResult _ (opNloc ..) (opNloc ..) from .lanewise2 rfl rfl h
  case nlzcB | nlzcH | nlzcW | nlzcD => exact show SameResult _ (opNlzc ..) (opNlzc ..) from .lanewise2 rfl rfl h
  case andV =>
    exact show SameResult _ (opAnd ..) (opAnd ..) from .whole rfl rfl (by rw [h _ (.head _), h _ (.tail _ (.head _))])
  case orV =>
    exact show SameResult _ (opOr ..) (opOr ..) from .whole rfl rfl (by rw [h _ (.head _), h _ (.tail _ (.head _))])
  case norV =>
    exact show SameResult _ (opNor ..) (opNor ..) from .whole rfl rfl (by rw [h _ (.head _), h _ (.tail _ (.head _))])
  case xorV =>
    exact show SameResult _ (opXor ..) (opXor ..) from .whole rfl rfl (by rw [h _ (.head _), h _ (.tail _ (.head _))])
  case andiB => exact show SameResult _ (opAndi ..) (opAndi ..) from .withImmediate (.lanewise2 rfl rfl h)
  case oriB => exact show SameResult _ (opOri ..) (opOri ..) from .withImmediate (.lanewise2 rfl rfl h)
  case noriB => exact show SameResult _ (opNori ..) (opNori ..) from .withImmediate (.lanewise2 rfl rfl h)
  case xoriB => exact show SameResult _ (opXori ..) (opXori ..) from .withImmediate (.lanewise2 rfl rfl h)
  case bmnzV =>
    exact show SameResult _ (opBmnz ..) (opBmnz ..) from
      .whole rfl rfl (by rw [h _ (.head _), h _ (.tail _ (.head _)), h _ (.tail _ (.tail _ (.head _)))])
  case bmzV =>
    exact show SameResult _ (opBmz ..) (opBmz ..) from
      .whole rfl rfl (by rw [h _ (.head _), h _ (.tail _ (.head _)), h _ (.tail _ (.tail _ (.head _)))])
  case bselV =>
    exact show SameResult _ (opBsel ..) (opBsel ..) from
      .whole rfl rfl (by rw [h _ (.head _), h _ (.tail _ (.head _)), h _ (.tail _ (.tail _ (.head _)))])
  case bmnziB => exact show SameResult _ (opBmnzi ..) (opBmnzi ..) from .withImmediate (.accumulate2 rfl rfl h)
  case bmziB => exact show SameResult _ (opBmzi ..) (opBmzi ..) from .withImmediate (.accumulate2 rfl rfl h)
  case bseliB => exact show SameResult _ (opBseli ..) (opBseli ..) from .withImmediate (.accumulate2 rfl rfl h)
  case sllB | sllH | sllW | sllD => exact show SameResult _ (opSll ..) (opSll ..) from .lanewise3 rfl rfl h
  case slliB | slliH | slliW | slliD =>
    exact show SameResult _ (opSlli ..) (opSlli ..) from .withImmediate (.lanewise2 rfl rfl h)
  case sraB | sraH | sraW | sraD => exact show SameResult _ (opSra ..) (opSra ..) from .lanewise3 rfl rfl h
  case sraiB | sraiH | sraiW | sraiD =>
    exact show SameResult _ (opSrai ..) (opSrai ..) from .withImmediate (.lanewise2 rfl rfl h)
  case srlB | srlH | srlW | srlD => exact show SameResult _ (opSrl ..) (opSrl ..) from .lanewise3 rfl rfl h
  case srliB | srliH | srliW | srliD =>
    exact show SameResult _ (opSrli ..) (opSrli ..) from .withImmediate (.lanewise2 rfl rfl h)
  case srarB | srarH | srarW | srarD => exact show SameResult _ (opSrar ..) (opSrar ..) from .lanewise3 rfl rfl h
  case srariB | srariH | srariW | srariD =>
    exact show SameResult _ (opSrari ..) (opSrari ..) from .withImmediate (.lanewise2 rfl rfl h)
  case srlrB | srlrH | srlrW | srlrD => exact show SameResult _ (opSrlr ..) (opSrlr ..) from .lanewise3 rfl rfl h
  case srlriB | srlriH | srlriW | srlriD =>
    exact show SameResult _ (opSrlri ..) (opSrlri ..) from .withImmediate (.lanewise2 rfl rfl h)
  case ilvevB | ilvevH | ilvevW | ilvevD =>
    exact show SameResult _ (opIlvev ..) (opIlvev ..) from
      .staged rfl rfl (by rw [h _ (.head _), h _ (.tail _ (.head _))])
  case ilvodB | ilvodH | ilvodW | ilvodD =>
    exact show SameResult _ (opIlvod ..) (opIlvod ..) from
      .staged rfl rfl (by rw [h _ (.head _), h _ (.tail _ (.head _))])
  case ilvlB | ilvlH | ilvlW | ilvlD =>
    exact show SameResult _ (opIlvl ..) (opIlvl ..) from
      .staged rfl rfl (by rw [h _ (.head _), h _ (.tail _ (.head _))])
  case ilvrB | ilvrH | ilvrW | ilvrD =>
    exact show SameResult _ (opIlvr ..) (opIlvr ..) from
      .staged rfl rfl (by rw [h _ (.head _), h _ (.tail _ (.head _))])
  case pckevB | pckevH | pckevW | pckevD =>
    exact show SameResult _ (opPckev ..) (opPckev ..) from
      .staged rfl rfl (by rw [h _ (.head _), h _ (.tail _ (.head _))])
  case pckodB | pckodH | pckodW | pckodD =>
    exact show SameResult _ (opPckod ..) (opPckod ..) from
      .staged rfl rfl (by rw [h _ (.head _), h _ (.tail _ (.head _))])
  case vshfB | vshfH | vshfW | vshfD =>
    exact show SameResult _ (opVshf ..) (opVshf ..) from
      .staged rfl rfl (by rw [h _ (.head _), h _ (.tail _ (.head _)), h _ (.tail _ (.tail _ (.head _)))])
  case shfB | shfH | shfW =>
    exact show SameResult _ (opShf ..) (opShf ..) from .withImmediate (.staged rfl rfl (by rw [h _ (.head _)]))
  case sldB _ _ rt | sldH _ _ rt | sldW _ _ rt | sldD _ _ rt =>
    exact show SameResult _ (opSld _ _ _ rt ..) (opSld _ _ _ rt ..) from
      .staged rfl rfl (by rw [h _ (.head _), h _ (.tail _ (.head _)), scalarIndex_congr hp (hg rfl)])
  case sldiB | sldiH | sldiW | sldiD =>
    exact show SameResult _ (opSldi ..) (opSldi ..) from
      .checkIndex (.staged rfl rfl (by rw [h _ (.head _), h _ (.tail _ (.head _))]))
  case splatB _ _ rt | splatH _ _ rt | splatW _ _ rt | splatD _ _ rt =>
    exact show SameResult _ (opSplat _ _ _ rt ..) (opSplat _ _ _ rt ..) from
      .broadcast rfl rfl (by rw [h _ (.head _), scalarIndex_congr hp (hg rfl)])
  case splatiB | splatiH | splatiW | splatiD =>
    exact show SameResult _ (opSplati ..) (opSplati ..) from .checkIndex (.broadcast rfl rfl (by rw [h _ (.head _)]))
  case ldiB | ldiH | ldiW | ldiD =>
    exact show SameResult _ (opLdi ..) (opLdi ..) from .withImmediate (.broadcast rfl rfl rfl)

/-- Settles O50. -/
theorem readsOnlyNamedSources : Obligations.ReadsOnlyNamedSources := by
  unfold Obligations.ReadsOnlyNamedSources
  exact fun s s' t t' i hp hg hr => sameResult_exec i hp hg hr t t'

/-! ## Repeating an operation -/

theorem signalModified_idem (s : State) (wd : Reg) : signalModified (signalModified s wd) wd = signalModified s wd := by
  cases ht : s.params.trackEnable <;> simp [signalModified, ht, BitVec.or_assoc]

/-- A register committed with what it holds already, after a commit to it, changes nothing: it is marked as well. -/
theorem commit_commit (s : State) (wd : Reg) (V : Vec) : commit (commit s wd V) wd V = commit s wd V := by
  have hwr : (commit s wd V).wr wd V = commit s wd V := by
    have := State.wr_rd (commit s wd V) wd
    rwa [commit_rd_same] at this
  rw [commit, hwr, commit, signalModified_idem]

/-- An operation that completes completes again at the state it gives. -/
theorem exec_next_again {i : Instr} {s t : State} (h : exec i s = .next t) : ∃ t', exec i t = .next t' := by
  obtain ⟨⟨hwf, hidx, hg⟩, -⟩ := exec_next_cases h
  exact admittedInstructionsComplete t i hwf hidx (exec_next_params h ▸ hg)

/-- Settles O52: the operation completes again, on the same sources, so it gives its destination the value it already
holds. -/
theorem repeatGivesSameState : Obligations.RepeatGivesSameState := by
  unfold Obligations.RepeatGivesSameState
  intro s t i h hdest
  obtain ⟨t', h'⟩ := exec_next_again h
  obtain ⟨hkept, hin, hp, -⟩ := writesOnlyNamedDestination s t i h
  have hsources : ∀ r ∈ i.sources, s.rd r = t.rd r := fun r hr => (hkept r fun hd => hdest r hd hr).symm
  obtain ⟨hwd, hrd⟩ := readsOnlyNamedSources s t t t' i hp.symm (fun _ => hin.symm) hsources h h'
  suffices t' = t from this ▸ h'
  obtain ⟨-, ⟨wd, V, hd, -, rfl⟩ | ⟨rd, v, -, hr, rfl⟩⟩ := exec_next_cases h
  · obtain ⟨-, ⟨wd', V', hd', -, rfl⟩ | ⟨_, _, hnone, -, -⟩⟩ := exec_next_cases h'
    · obtain rfl : wd = wd' := Option.some.inj (hd.symm.trans hd')
      obtain rfl : V = V' := by simpa only [commit_rd_same] using hwd wd hd
      exact commit_commit s wd V
    · exact absurd (hnone.symm.trans hd) nofun
  · obtain ⟨-, ⟨_, _, -, hnone, -⟩ | ⟨rd', v', -, -, rfl⟩⟩ := exec_next_cases h'
    · exact absurd (hnone.symm.trans hr) nofun
    · have hout := hrd rd hr
      simp only at hout
      simp only [← hout]

end Sys2Proof.Machine
end
